-- ==== Sys2Proof/Word.lean ====
section
/-!
DEFINITION. The byte, the only machine word of the engine (20_memory.md R60, R69: every access is one byte or one bit).
-/
namespace Sys2Proof

/-- A byte of a buffer, 0..255 (20_memory.md R60). -/
abbrev Byte := BitVec 8

end Sys2Proof
end

