-- ==== Sys2Proof/Syntax.lean ====
section
/-!
DEFINITION. The syntax of the engine's code streams: one constructor of `Instr` for every row of
spec/opcode_table.json, the six operations, the colours and the code spaces.
-/
namespace Sys2Proof

/-- Pixel and run colours (00_scope.md R12): white is bit value 0, black is bit value 1. -/
inductive Color where
  | white
  | black
  deriving DecidableEq, Repr

/-- The six operations of `cfg.op`, a closed enumeration with no numeric encoding (10_state.md R22). -/
inductive Op where
  | decodeG31D
  | decodeG32D
  | decodeG4
  | decodeLzw
  | copyNone
  | encodeG4
  deriving DecidableEq, Repr

/-- The code spaces of 30_encoding.md R90. The decoder's state alone chooses the space of the next word (R97). -/
inductive Space where
  /-- Before a Group 3 line; `fill` is `FILL_BITS` (44_image_decode.md R243). -/
  | frame (fill : Bool)
  /-- The bit after an EOL in `DECODE_G3_2D` (44_image_decode.md R246). -/
  | tag
  /-- A run of colour `c` (41_run_length_codes.md R150). -/
  | run (c : Color)
  /-- A mode position of a 2D line; `g4` says a Group 4 line (43_line_decoder_2d.md R203). -/
  | mode (g4 : Bool)
  /-- Inside uncompressed mode (43_line_decoder_2d.md R220). -/
  | uncompressed
  /-- An LZW code of `width` bits with the table at index `next`; `fresh` says `lzw_prev = NONE`
  (46_lzw_decoder.md R300, R306, R308 to R310). -/
  | lzw (width next : Nat) (fresh : Bool)
  /-- The end of the encoder's output (45_fax_encoder.md R284). -/
  | endOfBlock
  deriving DecidableEq, Repr

/-- One constructor per row of spec/opcode_table.json, in the table's order. -/
inductive Instr where
  -- White terminating words `WT<n>`, n = 0..63 (42_line_decoder_1d.md R174).
  | wt0 | wt1 | wt2 | wt3 | wt4 | wt5 | wt6 | wt7 | wt8 | wt9 | wt10 | wt11 | wt12 | wt13 | wt14 | wt15 | wt16
  | wt17 | wt18 | wt19 | wt20 | wt21 | wt22 | wt23 | wt24 | wt25 | wt26 | wt27 | wt28 | wt29 | wt30 | wt31
  | wt32 | wt33 | wt34 | wt35 | wt36 | wt37 | wt38 | wt39 | wt40 | wt41 | wt42 | wt43 | wt44 | wt45 | wt46
  | wt47 | wt48 | wt49 | wt50 | wt51 | wt52 | wt53 | wt54 | wt55 | wt56 | wt57 | wt58 | wt59 | wt60 | wt61
  | wt62 | wt63
  -- White makeup words `WM<n>` (R175).
  | wm64 | wm128 | wm192 | wm256 | wm320 | wm384 | wm448 | wm512 | wm576 | wm640 | wm704 | wm768 | wm832 | wm896
  | wm960 | wm1024 | wm1088 | wm1152 | wm1216 | wm1280 | wm1344 | wm1408 | wm1472 | wm1536 | wm1600 | wm1664
  | wm1728
  -- Black terminating words `BT<n>` (R176).
  | bt0 | bt1 | bt2 | bt3 | bt4 | bt5 | bt6 | bt7 | bt8 | bt9 | bt10 | bt11 | bt12 | bt13 | bt14 | bt15 | bt16
  | bt17 | bt18 | bt19 | bt20 | bt21 | bt22 | bt23 | bt24 | bt25 | bt26 | bt27 | bt28 | bt29 | bt30 | bt31
  | bt32 | bt33 | bt34 | bt35 | bt36 | bt37 | bt38 | bt39 | bt40 | bt41 | bt42 | bt43 | bt44 | bt45 | bt46
  | bt47 | bt48 | bt49 | bt50 | bt51 | bt52 | bt53 | bt54 | bt55 | bt56 | bt57 | bt58 | bt59 | bt60 | bt61
  | bt62 | bt63
  -- Black makeup words `BM<n>` (R177).
  | bm64 | bm128 | bm192 | bm256 | bm320 | bm384 | bm448 | bm512 | bm576 | bm640 | bm704 | bm768 | bm832 | bm896
  | bm960 | bm1024 | bm1088 | bm1152 | bm1216 | bm1280 | bm1344 | bm1408 | bm1472 | bm1536 | bm1600 | bm1664
  | bm1728
  -- Extended makeup words `XM<n>`, either colour (R178).
  | xm1792 | xm1856 | xm1920 | xm1984 | xm2048 | xm2112 | xm2176 | xm2240 | xm2304 | xm2368 | xm2432 | xm2496
  | xm2560
  /-- The EOL word with the number of zero fill bits before it (41_run_length_codes.md R146, 44_image_decode.md R243). -/
  | eol (fill : Nat)
  /-- Tag bit 1: the line is 1D-coded (44_image_decode.md R246). -/
  | tag1
  /-- Tag bit 0: the line is 2D-coded (R246, R247). -/
  | tag0
  /-- Pass mode (43_line_decoder_2d.md R206). -/
  | p
  /-- Horizontal mode; its two runs are the run words that follow (R207). -/
  | h
  /-- Vertical modes (R208 to R215). -/
  | vl3
  | vl2
  | vl1
  | v0
  | vr1
  | vr2
  | vr3
  /-- Entry to uncompressed mode, selector 111 (R216). -/
  | extU
  /-- Extension with a reserved selector (R217). -/
  | extRes (sel : BitVec 3)
  /-- Extension word in a Group 3 2D line, any selector (R219). -/
  | extG3 (sel : BitVec 3)
  /-- No mode word and no EOL: seven zeros and the bit x (R218). -/
  | modeInvalid (x : Bool)
  /-- Uncompressed image words (R222 to R227). -/
  | uB
  | uWB
  | uWWB
  | uWWWB
  | uWWWWB
  | uWWWWW
  /-- Uncompressed exit words with their tag bit (R228 to R232). -/
  | uX0 (t : Bool)
  | uX1 (t : Bool)
  | uX2 (t : Bool)
  | uX3 (t : Bool)
  | uX4 (t : Bool)
  /-- Eleven zeros in uncompressed mode (R233). -/
  | uInvalid
  /-- Clear code (46_lzw_decoder.md R307). -/
  | lzwClr
  /-- End code (R305). -/
  | lzwEnd
  /-- First data code after a reset (R306). -/
  | lzwFirst (c : Nat)
  /-- Data code of an existing entry (R308). -/
  | lzwEntry (code : Nat)
  /-- The KwKwK data code (R309). -/
  | lzwKwkwk (code : Nat)
  /-- Data code beyond the table (R310). -/
  | lzwInvalid (code : Nat)
  /-- End of block, two EOL words (45_fax_encoder.md R284). -/
  | eofb
  /-- The six job submissions (47_job_dispatch.md R340, R341). -/
  | jobDecodeG31D
  | jobDecodeG32D
  | jobDecodeG4
  | jobDecodeLzw
  | jobCopyNone
  | jobEncodeG4
  deriving DecidableEq, Repr

end Sys2Proof
end

