-- ==== Sys2Proof/WellFormed.lean ====
section
/-!
DEFINITION. Which terms of `Instr` are instructions: the operand ranges of the rows that have operands.
-/
namespace Sys2Proof

/-- The operand ranges. A reserved extension's selector is 000..110 (43_line_decoder_2d.md R217); the first data
code after a reset is 0..255 (46_lzw_decoder.md R306); a table entry's code is 0..255 or 258..4094, never the
clear or end code (R308, R311, R312: index 4095 resets the table); a KwKwK code is a table index 258..4094
(R309); an invalid code is at least 258 and fits 12 bits (R310). Every other term is an instruction. -/
def Instr.wellFormed : Instr → Bool
  | .extRes sel => decide (sel ≠ 7#3)
  | .lzwFirst c => decide (c ≤ 255)
  | .lzwEntry code => decide (code ≤ 4094) && decide (code ≠ 256) && decide (code ≠ 257)
  | .lzwKwkwk code => decide (258 ≤ code) && decide (code ≤ 4094)
  | .lzwInvalid code => decide (258 ≤ code) && decide (code ≤ 4095)
  | _ => true

/-- A well-formed instruction. -/
abbrev WellFormed (i : Instr) : Prop := i.wellFormed = true

end Sys2Proof
end

