-- ==== Sys2Proof/Decode.lean ====
section
/-!
DEFINITION. The decoder, total on any bits, and after it the encoder, both from the spec's encoding tables
(41_run_length_codes.md R141 to R146, 43_line_decoder_2d.md R203, R220, 46_lzw_decoder.md R300, 45_fax_encoder.md
R284), and the host's `decodeTableWord`.
-/
namespace Sys2Proof

/-- The `n` low bits of `v` as a bit string in stream order, first bit most significant (00_scope.md R10). -/
def bitsOf : Nat → Nat → List Bool
  | 0, _ => []
  | n + 1, v => v.testBit n :: bitsOf n v

/-- `val` of a bit string (00_scope.md R10). -/
def bitsVal (s : List Bool) : Nat := s.foldl (fun v b => 2 * v + b.toNat) 0

/-! ## The code words -/

/-- The EOL word `000000000001` (41_run_length_codes.md R146). -/
def eolWord : List Bool := bitsOf 12 0b000000000001

/-- The word of a constructor whose word is one bit string: the run words of 41_run_length_codes.md R141 to R145, the
tag bits of 44_image_decode.md R246, the mode words of 43_line_decoder_2d.md R203, the uncompressed words of R220 and
the end of block of 45_fax_encoder.md R284; and the words with operand bits. An EOL is its fill zeros and then
`eolWord` (44_image_decode.md R243). An LZW code is its value in `width` bits (46_lzw_decoder.md R300). A job selector
has no bits (10_state.md R22). -/
def encode (width : Nat) : Instr → List Bool
  | .wt0 => bitsOf 8 0b00110101
  | .wt1 => bitsOf 6 0b000111
  | .wt2 => bitsOf 4 0b0111
  | .wt3 => bitsOf 4 0b1000
  | .wt4 => bitsOf 4 0b1011
  | .wt5 => bitsOf 4 0b1100
  | .wt6 => bitsOf 4 0b1110
  | .wt7 => bitsOf 4 0b1111
  | .wt8 => bitsOf 5 0b10011
  | .wt9 => bitsOf 5 0b10100
  | .wt10 => bitsOf 5 0b00111
  | .wt11 => bitsOf 5 0b01000
  | .wt12 => bitsOf 6 0b001000
  | .wt13 => bitsOf 6 0b000011
  | .wt14 => bitsOf 6 0b110100
  | .wt15 => bitsOf 6 0b110101
  | .wt16 => bitsOf 6 0b101010
  | .wt17 => bitsOf 6 0b101011
  | .wt18 => bitsOf 7 0b0100111
  | .wt19 => bitsOf 7 0b0001100
  | .wt20 => bitsOf 7 0b0001000
  | .wt21 => bitsOf 7 0b0010111
  | .wt22 => bitsOf 7 0b0000011
  | .wt23 => bitsOf 7 0b0000100
  | .wt24 => bitsOf 7 0b0101000
  | .wt25 => bitsOf 7 0b0101011
  | .wt26 => bitsOf 7 0b0010011
  | .wt27 => bitsOf 7 0b0100100
  | .wt28 => bitsOf 7 0b0011000
  | .wt29 => bitsOf 8 0b00000010
  | .wt30 => bitsOf 8 0b00000011
  | .wt31 => bitsOf 8 0b00011010
  | .wt32 => bitsOf 8 0b00011011
  | .wt33 => bitsOf 8 0b00010010
  | .wt34 => bitsOf 8 0b00010011
  | .wt35 => bitsOf 8 0b00010100
  | .wt36 => bitsOf 8 0b00010101
  | .wt37 => bitsOf 8 0b00010110
  | .wt38 => bitsOf 8 0b00010111
  | .wt39 => bitsOf 8 0b00101000
  | .wt40 => bitsOf 8 0b00101001
  | .wt41 => bitsOf 8 0b00101010
  | .wt42 => bitsOf 8 0b00101011
  | .wt43 => bitsOf 8 0b00101100
  | .wt44 => bitsOf 8 0b00101101
  | .wt45 => bitsOf 8 0b00000100
  | .wt46 => bitsOf 8 0b00000101
  | .wt47 => bitsOf 8 0b00001010
  | .wt48 => bitsOf 8 0b00001011
  | .wt49 => bitsOf 8 0b01010010
  | .wt50 => bitsOf 8 0b01010011
  | .wt51 => bitsOf 8 0b01010100
  | .wt52 => bitsOf 8 0b01010101
  | .wt53 => bitsOf 8 0b00100100
  | .wt54 => bitsOf 8 0b00100101
  | .wt55 => bitsOf 8 0b01011000
  | .wt56 => bitsOf 8 0b01011001
  | .wt57 => bitsOf 8 0b01011010
  | .wt58 => bitsOf 8 0b01011011
  | .wt59 => bitsOf 8 0b01001010
  | .wt60 => bitsOf 8 0b01001011
  | .wt61 => bitsOf 8 0b00110010
  | .wt62 => bitsOf 8 0b00110011
  | .wt63 => bitsOf 8 0b00110100
  | .wm64 => bitsOf 5 0b11011
  | .wm128 => bitsOf 5 0b10010
  | .wm192 => bitsOf 6 0b010111
  | .wm256 => bitsOf 7 0b0110111
  | .wm320 => bitsOf 8 0b00110110
  | .wm384 => bitsOf 8 0b00110111
  | .wm448 => bitsOf 8 0b01100100
  | .wm512 => bitsOf 8 0b01100101
  | .wm576 => bitsOf 8 0b01101000
  | .wm640 => bitsOf 8 0b01100111
  | .wm704 => bitsOf 9 0b011001100
  | .wm768 => bitsOf 9 0b011001101
  | .wm832 => bitsOf 9 0b011010010
  | .wm896 => bitsOf 9 0b011010011
  | .wm960 => bitsOf 9 0b011010100
  | .wm1024 => bitsOf 9 0b011010101
  | .wm1088 => bitsOf 9 0b011010110
  | .wm1152 => bitsOf 9 0b011010111
  | .wm1216 => bitsOf 9 0b011011000
  | .wm1280 => bitsOf 9 0b011011001
  | .wm1344 => bitsOf 9 0b011011010
  | .wm1408 => bitsOf 9 0b011011011
  | .wm1472 => bitsOf 9 0b010011000
  | .wm1536 => bitsOf 9 0b010011001
  | .wm1600 => bitsOf 9 0b010011010
  | .wm1664 => bitsOf 6 0b011000
  | .wm1728 => bitsOf 9 0b010011011
  | .bt0 => bitsOf 10 0b0000110111
  | .bt1 => bitsOf 3 0b010
  | .bt2 => bitsOf 2 0b11
  | .bt3 => bitsOf 2 0b10
  | .bt4 => bitsOf 3 0b011
  | .bt5 => bitsOf 4 0b0011
  | .bt6 => bitsOf 4 0b0010
  | .bt7 => bitsOf 5 0b00011
  | .bt8 => bitsOf 6 0b000101
  | .bt9 => bitsOf 6 0b000100
  | .bt10 => bitsOf 7 0b0000100
  | .bt11 => bitsOf 7 0b0000101
  | .bt12 => bitsOf 7 0b0000111
  | .bt13 => bitsOf 8 0b00000100
  | .bt14 => bitsOf 8 0b00000111
  | .bt15 => bitsOf 9 0b000011000
  | .bt16 => bitsOf 10 0b0000010111
  | .bt17 => bitsOf 10 0b0000011000
  | .bt18 => bitsOf 10 0b0000001000
  | .bt19 => bitsOf 11 0b00001100111
  | .bt20 => bitsOf 11 0b00001101000
  | .bt21 => bitsOf 11 0b00001101100
  | .bt22 => bitsOf 11 0b00000110111
  | .bt23 => bitsOf 11 0b00000101000
  | .bt24 => bitsOf 11 0b00000010111
  | .bt25 => bitsOf 11 0b00000011000
  | .bt26 => bitsOf 12 0b000011001010
  | .bt27 => bitsOf 12 0b000011001011
  | .bt28 => bitsOf 12 0b000011001100
  | .bt29 => bitsOf 12 0b000011001101
  | .bt30 => bitsOf 12 0b000001101000
  | .bt31 => bitsOf 12 0b000001101001
  | .bt32 => bitsOf 12 0b000001101010
  | .bt33 => bitsOf 12 0b000001101011
  | .bt34 => bitsOf 12 0b000011010010
  | .bt35 => bitsOf 12 0b000011010011
  | .bt36 => bitsOf 12 0b000011010100
  | .bt37 => bitsOf 12 0b000011010101
  | .bt38 => bitsOf 12 0b000011010110
  | .bt39 => bitsOf 12 0b000011010111
  | .bt40 => bitsOf 12 0b000001101100
  | .bt41 => bitsOf 12 0b000001101101
  | .bt42 => bitsOf 12 0b000011011010
  | .bt43 => bitsOf 12 0b000011011011
  | .bt44 => bitsOf 12 0b000001010100
  | .bt45 => bitsOf 12 0b000001010101
  | .bt46 => bitsOf 12 0b000001010110
  | .bt47 => bitsOf 12 0b000001010111
  | .bt48 => bitsOf 12 0b000001100100
  | .bt49 => bitsOf 12 0b000001100101
  | .bt50 => bitsOf 12 0b000001010010
  | .bt51 => bitsOf 12 0b000001010011
  | .bt52 => bitsOf 12 0b000000100100
  | .bt53 => bitsOf 12 0b000000110111
  | .bt54 => bitsOf 12 0b000000111000
  | .bt55 => bitsOf 12 0b000000100111
  | .bt56 => bitsOf 12 0b000000101000
  | .bt57 => bitsOf 12 0b000001011000
  | .bt58 => bitsOf 12 0b000001011001
  | .bt59 => bitsOf 12 0b000000101011
  | .bt60 => bitsOf 12 0b000000101100
  | .bt61 => bitsOf 12 0b000001011010
  | .bt62 => bitsOf 12 0b000001100110
  | .bt63 => bitsOf 12 0b000001100111
  | .bm64 => bitsOf 10 0b0000001111
  | .bm128 => bitsOf 12 0b000011001000
  | .bm192 => bitsOf 12 0b000011001001
  | .bm256 => bitsOf 12 0b000001011011
  | .bm320 => bitsOf 12 0b000000110011
  | .bm384 => bitsOf 12 0b000000110100
  | .bm448 => bitsOf 12 0b000000110101
  | .bm512 => bitsOf 13 0b0000001101100
  | .bm576 => bitsOf 13 0b0000001101101
  | .bm640 => bitsOf 13 0b0000001001010
  | .bm704 => bitsOf 13 0b0000001001011
  | .bm768 => bitsOf 13 0b0000001001100
  | .bm832 => bitsOf 13 0b0000001001101
  | .bm896 => bitsOf 13 0b0000001110010
  | .bm960 => bitsOf 13 0b0000001110011
  | .bm1024 => bitsOf 13 0b0000001110100
  | .bm1088 => bitsOf 13 0b0000001110101
  | .bm1152 => bitsOf 13 0b0000001110110
  | .bm1216 => bitsOf 13 0b0000001110111
  | .bm1280 => bitsOf 13 0b0000001010010
  | .bm1344 => bitsOf 13 0b0000001010011
  | .bm1408 => bitsOf 13 0b0000001010100
  | .bm1472 => bitsOf 13 0b0000001010101
  | .bm1536 => bitsOf 13 0b0000001011010
  | .bm1600 => bitsOf 13 0b0000001011011
  | .bm1664 => bitsOf 13 0b0000001100100
  | .bm1728 => bitsOf 13 0b0000001100101
  | .xm1792 => bitsOf 11 0b00000001000
  | .xm1856 => bitsOf 11 0b00000001100
  | .xm1920 => bitsOf 11 0b00000001101
  | .xm1984 => bitsOf 12 0b000000010010
  | .xm2048 => bitsOf 12 0b000000010011
  | .xm2112 => bitsOf 12 0b000000010100
  | .xm2176 => bitsOf 12 0b000000010101
  | .xm2240 => bitsOf 12 0b000000010110
  | .xm2304 => bitsOf 12 0b000000010111
  | .xm2368 => bitsOf 12 0b000000011100
  | .xm2432 => bitsOf 12 0b000000011101
  | .xm2496 => bitsOf 12 0b000000011110
  | .xm2560 => bitsOf 12 0b000000011111
  | .eol fill => List.replicate fill false ++ eolWord
  | .tag1 => bitsOf 1 0b1
  | .tag0 => bitsOf 1 0b0
  | .p => bitsOf 4 0b0001
  | .h => bitsOf 3 0b001
  | .vl3 => bitsOf 7 0b0000010
  | .vl2 => bitsOf 6 0b000010
  | .vl1 => bitsOf 3 0b010
  | .v0 => bitsOf 1 0b1
  | .vr1 => bitsOf 3 0b011
  | .vr2 => bitsOf 6 0b000011
  | .vr3 => bitsOf 7 0b0000011
  | .extU => bitsOf 10 0b0000001111
  | .extRes sel => bitsOf 7 0b0000001 ++ bitsOf 3 sel.toNat
  | .extG3 sel => bitsOf 7 0b0000001 ++ bitsOf 3 sel.toNat
  | .modeInvalid x => bitsOf 7 0b0000000 ++ [x]
  | .uB => bitsOf 1 0b1
  | .uWB => bitsOf 2 0b01
  | .uWWB => bitsOf 3 0b001
  | .uWWWB => bitsOf 4 0b0001
  | .uWWWWB => bitsOf 5 0b00001
  | .uWWWWW => bitsOf 6 0b000001
  | .uX0 t => bitsOf 7 0b0000001 ++ [t]
  | .uX1 t => bitsOf 8 0b00000001 ++ [t]
  | .uX2 t => bitsOf 9 0b000000001 ++ [t]
  | .uX3 t => bitsOf 10 0b0000000001 ++ [t]
  | .uX4 t => bitsOf 11 0b00000000001 ++ [t]
  | .uInvalid => bitsOf 11 0b00000000000
  | .lzwClr => bitsOf width 256
  | .lzwEnd => bitsOf width 257
  | .lzwFirst c => bitsOf width c
  | .lzwEntry code => bitsOf width code
  | .lzwKwkwk code => bitsOf width code
  | .lzwInvalid code => bitsOf width code
  | .eofb => eolWord ++ eolWord
  | .jobDecodeG31D => []
  | .jobDecodeG32D => []
  | .jobDecodeG4 => []
  | .jobDecodeLzw => []
  | .jobCopyNone => []
  | .jobEncodeG4 => []

/-! ## The run-length tables -/

/-- Which run space an entry belongs to; the extended makeup words belong to both (41_run_length_codes.md R145). -/
inductive RunSpace where
  | white
  | black
  | shared
  deriving DecidableEq, Repr

/-- Does a run of this colour use the entries of this space? -/
def runSpaceHas : RunSpace → Color → Bool
  | .white, .white => true
  | .black, .black => true
  | .shared, _ => true
  | .white, .black => false
  | .black, .white => false

/-- `RunLengthCodeEntry` (41_run_length_codes.md R140) without its bit length, which is that of the word. -/
structure RunEntry where
  space : RunSpace
  run : Nat
  terminating : Bool
  deriving DecidableEq, Repr

/-- The run-length table: the entry of each run word (41_run_length_codes.md R141 to R145), and none for an
instruction that is no run word. -/
def Instr.runEntry : Instr → Option RunEntry
  | .wt0 => some ⟨.white, 0, true⟩
  | .wt1 => some ⟨.white, 1, true⟩
  | .wt2 => some ⟨.white, 2, true⟩
  | .wt3 => some ⟨.white, 3, true⟩
  | .wt4 => some ⟨.white, 4, true⟩
  | .wt5 => some ⟨.white, 5, true⟩
  | .wt6 => some ⟨.white, 6, true⟩
  | .wt7 => some ⟨.white, 7, true⟩
  | .wt8 => some ⟨.white, 8, true⟩
  | .wt9 => some ⟨.white, 9, true⟩
  | .wt10 => some ⟨.white, 10, true⟩
  | .wt11 => some ⟨.white, 11, true⟩
  | .wt12 => some ⟨.white, 12, true⟩
  | .wt13 => some ⟨.white, 13, true⟩
  | .wt14 => some ⟨.white, 14, true⟩
  | .wt15 => some ⟨.white, 15, true⟩
  | .wt16 => some ⟨.white, 16, true⟩
  | .wt17 => some ⟨.white, 17, true⟩
  | .wt18 => some ⟨.white, 18, true⟩
  | .wt19 => some ⟨.white, 19, true⟩
  | .wt20 => some ⟨.white, 20, true⟩
  | .wt21 => some ⟨.white, 21, true⟩
  | .wt22 => some ⟨.white, 22, true⟩
  | .wt23 => some ⟨.white, 23, true⟩
  | .wt24 => some ⟨.white, 24, true⟩
  | .wt25 => some ⟨.white, 25, true⟩
  | .wt26 => some ⟨.white, 26, true⟩
  | .wt27 => some ⟨.white, 27, true⟩
  | .wt28 => some ⟨.white, 28, true⟩
  | .wt29 => some ⟨.white, 29, true⟩
  | .wt30 => some ⟨.white, 30, true⟩
  | .wt31 => some ⟨.white, 31, true⟩
  | .wt32 => some ⟨.white, 32, true⟩
  | .wt33 => some ⟨.white, 33, true⟩
  | .wt34 => some ⟨.white, 34, true⟩
  | .wt35 => some ⟨.white, 35, true⟩
  | .wt36 => some ⟨.white, 36, true⟩
  | .wt37 => some ⟨.white, 37, true⟩
  | .wt38 => some ⟨.white, 38, true⟩
  | .wt39 => some ⟨.white, 39, true⟩
  | .wt40 => some ⟨.white, 40, true⟩
  | .wt41 => some ⟨.white, 41, true⟩
  | .wt42 => some ⟨.white, 42, true⟩
  | .wt43 => some ⟨.white, 43, true⟩
  | .wt44 => some ⟨.white, 44, true⟩
  | .wt45 => some ⟨.white, 45, true⟩
  | .wt46 => some ⟨.white, 46, true⟩
  | .wt47 => some ⟨.white, 47, true⟩
  | .wt48 => some ⟨.white, 48, true⟩
  | .wt49 => some ⟨.white, 49, true⟩
  | .wt50 => some ⟨.white, 50, true⟩
  | .wt51 => some ⟨.white, 51, true⟩
  | .wt52 => some ⟨.white, 52, true⟩
  | .wt53 => some ⟨.white, 53, true⟩
  | .wt54 => some ⟨.white, 54, true⟩
  | .wt55 => some ⟨.white, 55, true⟩
  | .wt56 => some ⟨.white, 56, true⟩
  | .wt57 => some ⟨.white, 57, true⟩
  | .wt58 => some ⟨.white, 58, true⟩
  | .wt59 => some ⟨.white, 59, true⟩
  | .wt60 => some ⟨.white, 60, true⟩
  | .wt61 => some ⟨.white, 61, true⟩
  | .wt62 => some ⟨.white, 62, true⟩
  | .wt63 => some ⟨.white, 63, true⟩
  | .wm64 => some ⟨.white, 64, false⟩
  | .wm128 => some ⟨.white, 128, false⟩
  | .wm192 => some ⟨.white, 192, false⟩
  | .wm256 => some ⟨.white, 256, false⟩
  | .wm320 => some ⟨.white, 320, false⟩
  | .wm384 => some ⟨.white, 384, false⟩
  | .wm448 => some ⟨.white, 448, false⟩
  | .wm512 => some ⟨.white, 512, false⟩
  | .wm576 => some ⟨.white, 576, false⟩
  | .wm640 => some ⟨.white, 640, false⟩
  | .wm704 => some ⟨.white, 704, false⟩
  | .wm768 => some ⟨.white, 768, false⟩
  | .wm832 => some ⟨.white, 832, false⟩
  | .wm896 => some ⟨.white, 896, false⟩
  | .wm960 => some ⟨.white, 960, false⟩
  | .wm1024 => some ⟨.white, 1024, false⟩
  | .wm1088 => some ⟨.white, 1088, false⟩
  | .wm1152 => some ⟨.white, 1152, false⟩
  | .wm1216 => some ⟨.white, 1216, false⟩
  | .wm1280 => some ⟨.white, 1280, false⟩
  | .wm1344 => some ⟨.white, 1344, false⟩
  | .wm1408 => some ⟨.white, 1408, false⟩
  | .wm1472 => some ⟨.white, 1472, false⟩
  | .wm1536 => some ⟨.white, 1536, false⟩
  | .wm1600 => some ⟨.white, 1600, false⟩
  | .wm1664 => some ⟨.white, 1664, false⟩
  | .wm1728 => some ⟨.white, 1728, false⟩
  | .bt0 => some ⟨.black, 0, true⟩
  | .bt1 => some ⟨.black, 1, true⟩
  | .bt2 => some ⟨.black, 2, true⟩
  | .bt3 => some ⟨.black, 3, true⟩
  | .bt4 => some ⟨.black, 4, true⟩
  | .bt5 => some ⟨.black, 5, true⟩
  | .bt6 => some ⟨.black, 6, true⟩
  | .bt7 => some ⟨.black, 7, true⟩
  | .bt8 => some ⟨.black, 8, true⟩
  | .bt9 => some ⟨.black, 9, true⟩
  | .bt10 => some ⟨.black, 10, true⟩
  | .bt11 => some ⟨.black, 11, true⟩
  | .bt12 => some ⟨.black, 12, true⟩
  | .bt13 => some ⟨.black, 13, true⟩
  | .bt14 => some ⟨.black, 14, true⟩
  | .bt15 => some ⟨.black, 15, true⟩
  | .bt16 => some ⟨.black, 16, true⟩
  | .bt17 => some ⟨.black, 17, true⟩
  | .bt18 => some ⟨.black, 18, true⟩
  | .bt19 => some ⟨.black, 19, true⟩
  | .bt20 => some ⟨.black, 20, true⟩
  | .bt21 => some ⟨.black, 21, true⟩
  | .bt22 => some ⟨.black, 22, true⟩
  | .bt23 => some ⟨.black, 23, true⟩
  | .bt24 => some ⟨.black, 24, true⟩
  | .bt25 => some ⟨.black, 25, true⟩
  | .bt26 => some ⟨.black, 26, true⟩
  | .bt27 => some ⟨.black, 27, true⟩
  | .bt28 => some ⟨.black, 28, true⟩
  | .bt29 => some ⟨.black, 29, true⟩
  | .bt30 => some ⟨.black, 30, true⟩
  | .bt31 => some ⟨.black, 31, true⟩
  | .bt32 => some ⟨.black, 32, true⟩
  | .bt33 => some ⟨.black, 33, true⟩
  | .bt34 => some ⟨.black, 34, true⟩
  | .bt35 => some ⟨.black, 35, true⟩
  | .bt36 => some ⟨.black, 36, true⟩
  | .bt37 => some ⟨.black, 37, true⟩
  | .bt38 => some ⟨.black, 38, true⟩
  | .bt39 => some ⟨.black, 39, true⟩
  | .bt40 => some ⟨.black, 40, true⟩
  | .bt41 => some ⟨.black, 41, true⟩
  | .bt42 => some ⟨.black, 42, true⟩
  | .bt43 => some ⟨.black, 43, true⟩
  | .bt44 => some ⟨.black, 44, true⟩
  | .bt45 => some ⟨.black, 45, true⟩
  | .bt46 => some ⟨.black, 46, true⟩
  | .bt47 => some ⟨.black, 47, true⟩
  | .bt48 => some ⟨.black, 48, true⟩
  | .bt49 => some ⟨.black, 49, true⟩
  | .bt50 => some ⟨.black, 50, true⟩
  | .bt51 => some ⟨.black, 51, true⟩
  | .bt52 => some ⟨.black, 52, true⟩
  | .bt53 => some ⟨.black, 53, true⟩
  | .bt54 => some ⟨.black, 54, true⟩
  | .bt55 => some ⟨.black, 55, true⟩
  | .bt56 => some ⟨.black, 56, true⟩
  | .bt57 => some ⟨.black, 57, true⟩
  | .bt58 => some ⟨.black, 58, true⟩
  | .bt59 => some ⟨.black, 59, true⟩
  | .bt60 => some ⟨.black, 60, true⟩
  | .bt61 => some ⟨.black, 61, true⟩
  | .bt62 => some ⟨.black, 62, true⟩
  | .bt63 => some ⟨.black, 63, true⟩
  | .bm64 => some ⟨.black, 64, false⟩
  | .bm128 => some ⟨.black, 128, false⟩
  | .bm192 => some ⟨.black, 192, false⟩
  | .bm256 => some ⟨.black, 256, false⟩
  | .bm320 => some ⟨.black, 320, false⟩
  | .bm384 => some ⟨.black, 384, false⟩
  | .bm448 => some ⟨.black, 448, false⟩
  | .bm512 => some ⟨.black, 512, false⟩
  | .bm576 => some ⟨.black, 576, false⟩
  | .bm640 => some ⟨.black, 640, false⟩
  | .bm704 => some ⟨.black, 704, false⟩
  | .bm768 => some ⟨.black, 768, false⟩
  | .bm832 => some ⟨.black, 832, false⟩
  | .bm896 => some ⟨.black, 896, false⟩
  | .bm960 => some ⟨.black, 960, false⟩
  | .bm1024 => some ⟨.black, 1024, false⟩
  | .bm1088 => some ⟨.black, 1088, false⟩
  | .bm1152 => some ⟨.black, 1152, false⟩
  | .bm1216 => some ⟨.black, 1216, false⟩
  | .bm1280 => some ⟨.black, 1280, false⟩
  | .bm1344 => some ⟨.black, 1344, false⟩
  | .bm1408 => some ⟨.black, 1408, false⟩
  | .bm1472 => some ⟨.black, 1472, false⟩
  | .bm1536 => some ⟨.black, 1536, false⟩
  | .bm1600 => some ⟨.black, 1600, false⟩
  | .bm1664 => some ⟨.black, 1664, false⟩
  | .bm1728 => some ⟨.black, 1728, false⟩
  | .xm1792 => some ⟨.shared, 1792, false⟩
  | .xm1856 => some ⟨.shared, 1856, false⟩
  | .xm1920 => some ⟨.shared, 1920, false⟩
  | .xm1984 => some ⟨.shared, 1984, false⟩
  | .xm2048 => some ⟨.shared, 2048, false⟩
  | .xm2112 => some ⟨.shared, 2112, false⟩
  | .xm2176 => some ⟨.shared, 2176, false⟩
  | .xm2240 => some ⟨.shared, 2240, false⟩
  | .xm2304 => some ⟨.shared, 2304, false⟩
  | .xm2368 => some ⟨.shared, 2368, false⟩
  | .xm2432 => some ⟨.shared, 2432, false⟩
  | .xm2496 => some ⟨.shared, 2496, false⟩
  | .xm2560 => some ⟨.shared, 2560, false⟩
  | _ => none

/-- `WT0` .. `WT63` in run order (41_run_length_codes.md R141). -/
def whiteTerminating : List Instr :=
  [.wt0, .wt1, .wt2, .wt3, .wt4, .wt5, .wt6, .wt7, .wt8, .wt9, .wt10, .wt11, .wt12, .wt13, .wt14, .wt15] ++
  [.wt16, .wt17, .wt18, .wt19, .wt20, .wt21, .wt22, .wt23, .wt24, .wt25, .wt26, .wt27, .wt28, .wt29, .wt30, .wt31] ++
  [.wt32, .wt33, .wt34, .wt35, .wt36, .wt37, .wt38, .wt39, .wt40, .wt41, .wt42, .wt43, .wt44, .wt45, .wt46, .wt47] ++
  [.wt48, .wt49, .wt50, .wt51, .wt52, .wt53, .wt54, .wt55, .wt56, .wt57, .wt58, .wt59, .wt60, .wt61, .wt62, .wt63]

/-- `WM64` .. `WM1728` in steps of 64 (R142). -/
def whiteMakeup : List Instr :=
  [.wm64, .wm128, .wm192, .wm256, .wm320, .wm384, .wm448, .wm512, .wm576, .wm640, .wm704, .wm768, .wm832, .wm896, .wm960, .wm1024] ++
  [.wm1088, .wm1152, .wm1216, .wm1280, .wm1344, .wm1408, .wm1472, .wm1536, .wm1600, .wm1664, .wm1728]

/-- `BT0` .. `BT63` in run order (R143). -/
def blackTerminating : List Instr :=
  [.bt0, .bt1, .bt2, .bt3, .bt4, .bt5, .bt6, .bt7, .bt8, .bt9, .bt10, .bt11, .bt12, .bt13, .bt14, .bt15] ++
  [.bt16, .bt17, .bt18, .bt19, .bt20, .bt21, .bt22, .bt23, .bt24, .bt25, .bt26, .bt27, .bt28, .bt29, .bt30, .bt31] ++
  [.bt32, .bt33, .bt34, .bt35, .bt36, .bt37, .bt38, .bt39, .bt40, .bt41, .bt42, .bt43, .bt44, .bt45, .bt46, .bt47] ++
  [.bt48, .bt49, .bt50, .bt51, .bt52, .bt53, .bt54, .bt55, .bt56, .bt57, .bt58, .bt59, .bt60, .bt61, .bt62, .bt63]

/-- `BM64` .. `BM1728` in steps of 64 (R144). -/
def blackMakeup : List Instr :=
  [.bm64, .bm128, .bm192, .bm256, .bm320, .bm384, .bm448, .bm512, .bm576, .bm640, .bm704, .bm768, .bm832, .bm896, .bm960, .bm1024] ++
  [.bm1088, .bm1152, .bm1216, .bm1280, .bm1344, .bm1408, .bm1472, .bm1536, .bm1600, .bm1664, .bm1728]

/-- `XM1792` .. `XM2560` in steps of 64 (R145). -/
def extendedMakeup : List Instr :=
  [.xm1792, .xm1856, .xm1920, .xm1984, .xm2048, .xm2112, .xm2176, .xm2240, .xm2304, .xm2368, .xm2432, .xm2496, .xm2560]

/-- The terminating words of a colour, in run order. -/
def terminatingWords : Color → List Instr
  | .white => whiteTerminating
  | .black => blackTerminating

/-- The makeup words a run of a colour may use, in steps of 64 from 64 (45_fax_encoder.md R282). -/
def makeupWords : Color → List Instr
  | .white => whiteMakeup ++ extendedMakeup
  | .black => blackMakeup ++ extendedMakeup

/-- `WhiteSpace` and `BlackSpace` of 41_run_length_codes.md R150. -/
def runWords (c : Color) : List Instr := terminatingWords c ++ makeupWords c

/-- The mode words with no operand (43_line_decoder_2d.md R203). -/
def modeWords : List Instr := [.p, .h, .vl3, .vl2, .vl1, .v0, .vr1, .vr2, .vr3]

/-! ## The decoder -/

/-- Why no instruction is read. -/
inductive DecodeError where
  /-- No word of the run space is a prefix of the look-ahead and it is no EOL: the INVALID entry
  (41_run_length_codes.md R148, R152). -/
  | noRunWord
  /-- No EOL where a Group 3 line starts (44_image_decode.md R243). -/
  | noEol
  /-- No end of block where the encoder's output ends (45_fax_encoder.md R284). -/
  | noEndOfBlock
  deriving DecidableEq, Repr

/-- What the decoder reads: an instruction, or a rejection by name. -/
inductive Decoded where
  | word (i : Instr)
  | reject (e : DecodeError)
  deriving DecidableEq, Repr

/-- Is the word of `i` a prefix of the look-ahead? -/
def startsWith (la : List Bool) (i : Instr) : Bool := (encode 9 i).isPrefixOf la

/-- The look-ahead of the cursor: the bits read past the end are zeros (40_bit_cursor.md R122), and 13 bits always
suffice (30_encoding.md R93). -/
def padded (bits : List Bool) : List Bool := bits ++ List.replicate 13 false

/-- The number of zero bits before the first 1 bit, or all of them. -/
def leadingZeros : List Bool → Nat
  | [] => 0
  | true :: _ => 0
  | false :: r => leadingZeros r + 1

/-- One run word: EOL first, then the unique prefix match (41_run_length_codes.md R150). -/
def decodeRun (c : Color) (la : List Bool) : Decoded :=
  if startsWith la (.eol 0) then .word (.eol 0)
  else match (runWords c).find? (startsWith la) with
    | some i => .word i
    | none => .reject .noRunWord

/-- The three selector bits after the extension prefix (43_line_decoder_2d.md R216). -/
def extSelector (la : List Bool) : BitVec 3 := BitVec.ofNat 3 (bitsVal ((la.drop 7).take 3))

/-- One mode word: EOL first, then the prefix match, then the extension word, which Group 3 refuses whatever its
selector (43_line_decoder_2d.md R204, R216 to R219; 60_exceptions.md R362). What is left starts `0000000`. -/
def decodeMode (g4 : Bool) (la : List Bool) : Instr :=
  if startsWith la (.eol 0) then .eol 0
  else match modeWords.find? (startsWith la) with
    | some i => i
    | none =>
      if (bitsOf 7 0b0000001).isPrefixOf la then
        if !g4 then .extG3 (extSelector la)
        else if extSelector la = 7#3 then .extU
        else .extRes (extSelector la)
      else .modeInvalid (la.getD 7 false)

/-- One uncompressed word, by its number of leading zeros; an exit word's tag is the bit after its 1
(43_line_decoder_2d.md R220, R221, R233). -/
def decodeUncompressed (la : List Bool) : Instr :=
  let z := leadingZeros la
  let t := la.getD (z + 1) false
  if z = 0 then .uB
  else if z = 1 then .uWB
  else if z = 2 then .uWWB
  else if z = 3 then .uWWWB
  else if z = 4 then .uWWWWB
  else if z = 5 then .uWWWWW
  else if z = 6 then .uX0 t
  else if z = 7 then .uX1 t
  else if z = 8 then .uX2 t
  else if z = 9 then .uX3 t
  else if z = 10 then .uX4 t
  else .uInvalid

/-- One LZW code, classified in the order of 46_lzw_decoder.md R304. -/
def decodeLzw (next : Nat) (fresh : Bool) (code : Nat) : Instr :=
  if code = 257 then .lzwEnd
  else if code = 256 then .lzwClr
  else if fresh then (if 258 ≤ code then .lzwInvalid code else .lzwFirst code)
  else if code < next then .lzwEntry code
  else if code = next then .lzwKwkwk code
  else .lzwInvalid code

/-- `ReadEOL` of 44_image_decode.md R243 on the bits that are left: without fill exactly the EOL word; with fill
eleven or more zeros and then a 1, the zeros beyond eleven being fill. -/
def decodeFrame (fill : Bool) (bits : List Bool) : Decoded :=
  if fill then
    let z := leadingZeros bits
    if z < bits.length && decide (11 ≤ z) then .word (.eol (z - 11)) else .reject .noEol
  else if eolWord.isPrefixOf bits then .word (.eol 0) else .reject .noEol

/-- The instruction the bits of a stream begin with in a code space. Total on any bits. -/
def decode (sp : Space) (bits : List Bool) : Decoded :=
  match sp with
  | .frame fill => decodeFrame fill bits
  | .tag => .word (if (padded bits).headD false then .tag1 else .tag0)
  | .run c => decodeRun c (padded bits)
  | .mode g4 => .word (decodeMode g4 (padded bits))
  | .uncompressed => .word (decodeUncompressed (padded bits))
  | .lzw width next fresh => .word (decodeLzw next fresh (bitsVal (bits.take width)))
  | .endOfBlock => if (eolWord ++ eolWord).isPrefixOf bits then .word .eofb else .reject .noEndOfBlock

/-- The instruction of a submitted operation (47_job_dispatch.md R341). -/
def Op.instr : Op → Instr
  | .decodeG31D => .jobDecodeG31D
  | .decodeG32D => .jobDecodeG32D
  | .decodeG4 => .jobDecodeG4
  | .decodeLzw => .jobDecodeLzw
  | .copyNone => .jobCopyNone
  | .encodeG4 => .jobEncodeG4

/-- Is `i` an instruction of the code space, its operands in the ranges the space allows (30_encoding.md R90, R95)?
-/
def Space.admits : Space → Instr → Bool
  | .frame fill, .eol z => fill || decide (z = 0)
  | .tag, .tag1 => true
  | .tag, .tag0 => true
  | .run _, .eol z => decide (z = 0)
  | .run c, i => match i.runEntry with
    | some e => runSpaceHas e.space c
    | none => false
  | .mode _, .eol z => decide (z = 0)
  | .mode g4, .extU => g4
  | .mode g4, .extRes sel => g4 && decide (sel ≠ 7#3)
  | .mode g4, .extG3 _ => !g4
  | .mode _, .modeInvalid _ => true
  | .mode _, i => decide (i ∈ modeWords)
  | .uncompressed, i => match i with
    | .uB | .uWB | .uWWB | .uWWWB | .uWWWWB | .uWWWWW => true
    | .uX0 _ | .uX1 _ | .uX2 _ | .uX3 _ | .uX4 _ | .uInvalid => true
    | _ => false
  | .lzw width next fresh, i => match i with
    | .lzwClr => decide (256 < 2 ^ width)
    | .lzwEnd => decide (257 < 2 ^ width)
    | .lzwFirst c => fresh && decide (c ≤ 255) && decide (c < 2 ^ width)
    | .lzwEntry code =>
      !fresh && decide (code < next) && decide (code ≠ 256) && decide (code ≠ 257) && decide (code < 2 ^ width)
    | .lzwKwkwk code =>
      !fresh && decide (code = next) && decide (258 ≤ code) && decide (code < 2 ^ width)
    | .lzwInvalid code =>
      decide (258 ≤ code) && (fresh || decide (next < code)) && decide (code < 2 ^ width)
    | _ => false
  | .endOfBlock, .eofb => true
  | _, _ => false

/-! ## The host's question about one word of the opcode table -/

/-- The code spaces in which `decodeTableWord` reads a word, in the order it tries them. -/
def tableSpaces : List Space :=
  [.frame false, .run .white, .run .black, .tag, .mode true, .mode false, .uncompressed, .lzw 9 258 true, .endOfBlock]

/-- Is this the row of a pattern that begins no word (43_line_decoder_2d.md R218, R233)? -/
def isInvalidRow : Instr → Bool
  | .modeInvalid _ => true
  | .uInvalid => true
  | _ => false

/-- The decoder's reading of the `len` low bits of `w`, first bit most significant, as one whole word of a space. -/
def wholeWord (len w : Nat) (invalid : Bool) (sp : Space) : Option Instr :=
  match decode sp (bitsOf len w) with
  | .word i => if (encode 9 i == bitsOf len w) && (isInvalidRow i == invalid) then some i else none
  | .reject _ => none

/-- The first space, and the longest word of at most `len` bits, of which `w` is the value. -/
def longestWord (w : Nat) (invalid : Bool) : Nat → Option Instr
  | 0 => none
  | len + 1 =>
    if w < 2 ^ (len + 1) then
      match tableSpaces.findSome? (wholeWord (len + 1) w invalid) with
      | some i => some i
      | none => longestWord w invalid len
    else none

/-- The instruction the decoder reads from the bits `w` of a table row of `nbits` bits (whole bytes). A code word's
value does not tell its length or its space (30_encoding.md R97), and the spaces overlap: the longest word comes first,
then the order of `tableSpaces`, and a pattern that begins no word comes last (log 7). -/
def decodeTableWord (nbits w : Nat) : Option Instr :=
  match longestWord w false nbits with
  | some i => some i
  | none => longestWord w true nbits

end Sys2Proof
end

