-- ==== Sys2Proof/Config.lean ====
section
/-!
DEFINITION. What an implementation fixes: the parameters of 00_scope.md R8, the constants of R7, and the one
value the spec leaves to be anything, the cursor after a raise (93_implementation_defined.md Part 1 row 15).
-/
namespace Sys2Proof

/-- The named parameters of 00_scope.md R8 (92_eei_decisions.md D33, OPEN): the model takes them as arguments,
held in `Machine.State.limits`, which no step writes. -/
structure Limits where
  maxWidth : Nat
  maxHeight : Nat
  maxInBytes : Nat
  deriving DecidableEq, Repr

/-- The limits State.reset holds. DESIGN CHOICE (log 2): the spec gives no number; 2^31 - 1 is the largest
the widths of D39 are said to be safe for. -/
def Config.resetLimits : Limits := ⟨2147483647, 2147483647, 2147483647⟩

/-- LZW clear code (00_scope.md R7, 46_lzw_decoder.md R307). -/
def Config.lzwClear : Nat := 256

/-- LZW end code (00_scope.md R7, 46_lzw_decoder.md R305). -/
def Config.lzwEnd : Nat := 257

/-- LZW initial table size, the first index a new entry gets (00_scope.md R7, 46_lzw_decoder.md R302). -/
def Config.lzwFirst : Nat := 258

/-- The table index whose reaching resets the table (46_lzw_decoder.md R312). -/
def Config.lzwFull : Nat := 4095

/-- Where the bit cursor stands after a raise: any value (93_implementation_defined.md Part 1 row 15,
60_exceptions.md R374). It has no body on purpose: no proof can know it. Applied to `Machine.State.freeCount`,
so that two raises need not leave the same value (log 6). -/
opaque Config.cursorAfterRaise : Nat → Nat

end Sys2Proof
end

