-- ==== Sys2Proof/Machine/State.lean ====
section
/-!
DEFINITION. The state of the engine as plain data (10_state.md), the reasons a step can stop, and the state after
reset.
-/
namespace Sys2Proof.Machine

/-- A byte-addressed memory: (address, byte) pairs, addresses strictly rising, no zero byte listed. An unlisted
address reads as 0: the output buffer starts all zero (20_memory.md R66), and past the end of the input the cursor
supplies zeros (40_bit_cursor.md R122). -/
abbrev Memory := List Host.Cell

/-- A buffer of `size` bytes, addresses `0..size-1` (20_memory.md R60, R61). -/
structure Buffer where
  size : Nat
  cells : Memory
  deriving DecidableEq, Repr

/-- A row of pixels, pixel 0 first. -/
abbrev Row := List Color

/-- `cfg.predictor` (10_state.md R25); a value outside the two names is refused by 60_exceptions.md R361
(log 8). -/
inductive Predictor where
  | none
  | horizontal
  | other (value : Nat)
  deriving DecidableEq, Repr

/-- The job configuration `cfg` (10_state.md R22 to R28), a record the host delivers with the job. -/
structure JobConfig where
  op : Op
  width : Nat
  height : Nat
  fillOrder : Nat
  t4Options : BitVec 32
  predictor : Predictor
  samplesPerPixel : Nat
  bitsPerSample : Nat
  tolerant : Bool
  refIn : Option Row
  input : Buffer
  deriving DecidableEq, Repr

/-- `res.status` (10_state.md R31, 60_exceptions.md R360). `TruncatedStream` is never reported (R372). -/
inductive Status where
  | ok
  | malformedCode
  | prematureEOL
  | missingReferenceLine
  | overrunError
  | invalidLZWSequence
  | preconditionViolation
  | fallbackRequested
  deriving DecidableEq, Repr

/-- The result record `res` (10_state.md R33, 47_job_dispatch.md R343). -/
structure JobResult where
  status : Status
  out : Option Buffer
  failures : Nat
  refOut : Option Row
  enc : Option (List Byte)
  deriving DecidableEq, Repr

/-- The call of `DecodeRun` a run word belongs to: a 1D line (42_line_decoder_1d.md R171), or the first or second run
of a horizontal mode (43_line_decoder_2d.md R207). -/
inductive RunSite where
  | line1D
  | horizontal1
  | horizontal2
  deriving DecidableEq, Repr

/-- Where the engine stands in the pseudocode: the context that selects the code space (30_encoding.md R97), with
the local variables of the procedure it stands in. -/
inductive Phase where
  /-- No job runs. -/
  | idle
  /-- At the EOL that opens Group 3 row `row` (44_image_decode.md R240). -/
  | lineStart
  /-- At the tag bit (44_image_decode.md R242). -/
  | tagBit
  /-- In `DecodeRun`: the run's first pixel `x` and the pixels decoded so far (42_line_decoder_1d.md R172). -/
  | run (site : RunSite) (x total : Nat)
  /-- At a mode position (43_line_decoder_2d.md R205). -/
  | modeWord
  /-- In `UncompressedLoop` (43_line_decoder_2d.md R221). -/
  | uncompressed
  /-- In the LZW loop (46_lzw_decoder.md R304). -/
  | lzw
  /-- At the encoder's mode choice (45_fax_encoder.md R273). -/
  | encodeMode
  /-- In `EmitRun` of a horizontal mode's first run: what is left of it, `a1` and `a2` (45_fax_encoder.md R278). -/
  | encodeRun1 (left a1 a2 : Nat)
  /-- In `EmitRun` of its second run: what is left of it, and `a2`. -/
  | encodeRun2 (left a2 : Nat)
  /-- At the encoder's end of block (45_fax_encoder.md R284). -/
  | encodeEnd
  deriving DecidableEq, Repr

/-- The LZW string table (10_state.md R43): the entries that differ from `InitTable`'s, as (index, string) pairs,
indexes strictly rising. -/
abbrev LzwTable := List (Nat × List Byte)

/-- The machine. The fields from `cur` to `encBits` are the working registers `st` of 10_state.md R20. -/
structure State where
  /-- The parameters of 00_scope.md R8; the model's own field, which no step writes (log 2). -/
  limits : Limits
  /-- The job the host has submitted and the engine has not taken (47_job_dispatch.md R340); that the port holds one
  job and refuses another until that one has returned is the model's choice (log 17). -/
  request : Option JobConfig
  /-- `res` of the last job (47_job_dispatch.md R343). -/
  result : Option JobResult
  /-- The configuration latched at job start (10_state.md R29). -/
  cfg : JobConfig
  /-- The position in the pseudocode (30_encoding.md R97). -/
  phase : Phase
  /-- Bit cursor position (40_bit_cursor.md R120); the LZW reader's bit position (46_lzw_decoder.md). -/
  cur : Nat
  /-- Latched fill order (10_state.md R23). -/
  fill : Nat
  /-- Row being decoded or encoded. -/
  row : Nat
  /-- 2D reference position, -1 before the line (43_line_decoder_2d.md R200). -/
  a0 : Int
  /-- Current colour (10_state.md R46). -/
  color : Color
  /-- Next pixel to be written. -/
  pos : Nat
  /-- Reference line (10_state.md R41). -/
  ref : Row
  /-- May a 2D-coded Group 3 line use the reference line (10_state.md R46)? -/
  refValid : Bool
  /-- Rows not decoded (10_state.md R32). -/
  failures : Nat
  /-- String table (10_state.md R43). -/
  lzwTab : LzwTable
  /-- Index of the next new entry. -/
  lzwNext : Nat
  /-- Width of the next code. -/
  lzwWidth : Nat
  /-- Previous data code, or NONE. -/
  lzwPrev : Option Nat
  /-- Bytes written by the LZW decoder. -/
  lzwOut : Nat
  /-- Encoder output so far (45_fax_encoder.md R272). -/
  encBits : List Bool
  /-- The output buffer (20_memory.md R61). -/
  out : Buffer
  /-- How many cursor positions raises have left open; the model's own field (log 6). -/
  freeCount : Nat
  deriving DecidableEq, Repr

/-- Why the machine stops. The spec's own errors are no stops (60_exceptions.md R364 to R369): these two are the
model's, and arise only in states no run reaches. -/
inductive Fault where
  /-- An access outside a buffer, raised by painting, clearing, copying or reading a row. Safe: no rule makes such
  an access (20_memory.md R60, R61), so the model stops where the hardware is not described. -/
  | outsideBuffer
  /-- An LZW table entry that holds no string is asked for, raised by the data codes. Safe: a code below `lzw_next`
  always names a string (10_state.md R43). -/
  | emptyTableEntry
  deriving DecidableEq, Repr

/-- Why an instruction has no meaning where it stands. -/
inductive Refusal where
  /-- An instruction of the table that the model gives no meaning; raised only by an arm of `exec`. Safe. -/
  | notModelled (mnemonic : String)
  /-- The instruction is not of the code space the engine reads in this state, or is not the word the encoder
  chooses, or no such job is submitted: state alone selects what is executed (30_encoding.md R97), so the engine
  never executes it here. Raised by the meanings; no step raises it. Safe. -/
  | notInContext
  deriving DecidableEq, Repr

/-- The outcome of a meaning. -/
abbrev Out := Host.Outcome State Fault Refusal

/-- The configuration State.reset holds before any job: an empty job. DESIGN CHOICE (log 1): the spec gives none,
and nothing reads it before a job latches its own. -/
def JobConfig.blank : JobConfig where
  op := .copyNone
  width := 0
  height := 0
  fillOrder := 1
  t4Options := 0
  predictor := .none
  samplesPerPixel := 1
  bitsPerSample := 1
  tolerant := false
  refIn := none
  input := ⟨0, []⟩

/-- The engine before its first job: every working register at its value at job start (10_state.md R20, R47), no job
submitted, no result, no output buffer (log 1). -/
def State.reset : State where
  limits := Config.resetLimits
  request := none
  result := none
  cfg := JobConfig.blank
  phase := .idle
  cur := 0
  fill := 1
  row := 0
  a0 := -1
  color := .white
  pos := 0
  ref := []
  refValid := false
  failures := 0
  lzwTab := []
  lzwNext := 258
  lzwWidth := 9
  lzwPrev := none
  lzwOut := 0
  encBits := []
  out := ⟨0, []⟩
  freeCount := 0

end Sys2Proof.Machine
end

