-- ==== Sys2Proof/Machine/Flags.lean ====
section
/-!
DEFINITION. The flag-like fields of 10_state.md R46 (the current colour, the validity of the reference line, the
previous LZW code) and every way they are set.
-/
namespace Sys2Proof.Machine

/-- `!c`, the other colour (00_scope.md R12). -/
def flipColor : Color → Color
  | .white => .black
  | .black => .white

/-- The colour a tag bit `T` of an uncompressed exit word selects (43_line_decoder_2d.md R221). -/
def tagColor (t : Bool) : Color := if t then .black else .white

/-- The bit value of a colour in a row buffer (00_scope.md R12). -/
def colorBit : Color → Bool
  | .white => false
  | .black => true

/-- `st.color <- !st.color`: a terminating word that does not end a 1D line (42_line_decoder_1d.md R180), and every
vertical mode (43_line_decoder_2d.md R215). -/
def State.flipped (s : State) : State := { s with color := flipColor s.color }

/-- The start of a line, 1D or 2D: `st.a0 <- -1`, `st.color <- W`, `st.pos <- 0` (10_state.md R20 "at each line start";
42_line_decoder_1d.md R171, 43_line_decoder_2d.md R200). -/
def State.atLineStart (s : State) : State := { s with a0 := -1, color := .white, pos := 0 }

/-- `st.ref_valid <- false`: an abandoned or skipped line (44_image_decode.md R247). -/
def State.refInvalidated (s : State) : State := { s with refValid := false }

/-- `st.ref <- r; st.ref_valid <- true`: a successfully decoded line (44_image_decode.md R248). -/
def State.withReference (s : State) (r : Row) : State := { s with ref := r, refValid := true }

/-- `InitTable()` (46_lzw_decoder.md R302): the table back to 258 entries, width 9, no previous code. -/
def State.initTable (s : State) : State :=
  { s with lzwTab := [], lzwNext := Config.lzwFirst, lzwWidth := 9, lzwPrev := none }

/-- The code width after an add made `lzw_next` equal to `next` (46_lzw_decoder.md R304 `AddEntry`, R311). -/
def widthAfterAdd (next width : Nat) : Nat :=
  if next = 511 then 10 else if next = 1023 then 11 else if next = 2047 then 12 else width

end Sys2Proof.Machine
end

