-- ==== Sys2Proof/Machine/Ops.lean ====
section
/-!
DEFINITION. The shared operations over memory, pixels, the bit cursor, the job's start and result, and RAISING AN ERROR:
the one operation every error goes through, with the resumption at the next EOL beside it (60_exceptions.md).
-/
namespace Sys2Proof.Machine

/-! ## Memory and buffers (20_memory.md) -/

/-- The byte at address `a`; an unlisted address reads as 0. -/
def Memory.read : Memory → Nat → Byte
  | [], _ => 0
  | (b, v) :: m, a => if b = a then v else Memory.read m a

/-- Byte `a` gets `v`; the canonical form is kept, so writing 0 unlists the address. -/
def Memory.write : Memory → Nat → Byte → Memory
  | [], a, v => if v = 0 then [] else [(a, v)]
  | (b, w) :: m, a, v =>
    if a < b then (if v = 0 then (b, w) :: m else (a, v) :: (b, w) :: m)
    else if a = b then (if v = 0 then m else (a, v) :: m)
    else (b, w) :: Memory.write m a v

/-- The canonical form: addresses strictly rising, no zero byte listed. -/
def Memory.wf : Memory → Bool
  | [] => true
  | (a, v) :: m => decide (v ≠ 0) && m.all (fun c => decide (a < c.1)) && Memory.wf m

/-- A buffer in canonical form with no byte listed past its end. -/
def Buffer.wf (b : Buffer) : Bool := b.cells.wf && b.cells.all (fun c => decide (c.1 < b.size))

/-- A buffer of `n` zero bytes (20_memory.md R66). -/
def Buffer.zeros (n : Nat) : Buffer := ⟨n, []⟩

/-- The bytes of a list stored from address `a` on. -/
def Memory.store : Memory → Nat → List Byte → Memory
  | m, _, [] => m
  | m, a, v :: l => Memory.store (m.write a v) (a + 1) l

/-- The buffer that holds a sequence of bytes. -/
def Buffer.ofBytes (l : List Byte) : Buffer := ⟨l.length, Memory.store [] 0 l⟩

/-- The bytes of a buffer in address order. -/
def Buffer.bytes (b : Buffer) : List Byte := (List.range b.size).map b.cells.read

/-! ## Geometry -/

/-- Row stride `S` in bytes (10_state.md R30, 47_job_dispatch.md R341). -/
def JobConfig.stride (c : JobConfig) : Nat :=
  match c.op with
  | .decodeG31D => (c.width + 7) / 8
  | .decodeG32D => (c.width + 7) / 8
  | .decodeG4 => (c.width + 7) / 8
  | .encodeG4 => (c.width + 7) / 8
  | .decodeLzw => (c.width * c.samplesPerPixel * c.bitsPerSample + 7) / 8
  | .copyNone => (c.width * c.samplesPerPixel * c.bitsPerSample + 7) / 8

/-- `TWO_D`, bit 0 of `cfg.t4Options` (10_state.md R24). -/
def JobConfig.twoD (c : JobConfig) : Bool := c.t4Options.getLsbD 0

/-- `FILL_BITS`, bit 2 of `cfg.t4Options` (10_state.md R24). -/
def JobConfig.fillBits (c : JobConfig) : Bool := c.t4Options.getLsbD 2

/-! ## Pixels (20_memory.md R63 to R65) -/

/-- The byte of pixel `x` of row `k`. -/
def pixelAddr (stride k x : Nat) : Nat := k * stride + x / 8

/-- The bit of pixel `x` in its byte: the leftmost pixel is the most significant bit. -/
def pixelBit (x : Nat) : Nat := 7 - x % 8

/-- `Pix(k, x)` (20_memory.md R64). -/
def Memory.pixel (m : Memory) (stride k x : Nat) : Color :=
  if (m.read (pixelAddr stride k x)).getLsbD (pixelBit x) then .black else .white

/-- `SetPix(k, x, c)`: that one bit and no other (20_memory.md R64). -/
def Memory.setPixel (m : Memory) (stride k x : Nat) (c : Color) : Memory :=
  let a := pixelAddr stride k x
  let mask : Byte := 1#8 <<< pixelBit x
  m.write a ((m.read a &&& ~~~mask) ||| (if colorBit c then mask else 0))

/-- `SetPix` for `n` pixels from `x` on, in ascending order. -/
def Memory.paint (stride k : Nat) (c : Color) : Nat → Nat → Memory → Memory
  | 0, _, m => m
  | n + 1, x, m => Memory.paint stride k c n (x + 1) (m.setPixel stride k x c)

/-- `Paint(k, x0, x1, c)` on row `st.row` of the output buffer (20_memory.md R65): nothing when `x1 <= x0`; none where
the last pixel lies outside the buffer, which no rule asks for (R61). -/
def State.paint (s : State) (x0 x1 : Nat) (c : Color) : Option State :=
  if x1 ≤ x0 then some s
  else if pixelAddr s.cfg.stride s.row (x1 - 1) < s.out.size then
    some { s with out := { s.out with cells := s.out.cells.paint s.cfg.stride s.row c (x1 - x0) x0 } }
  else none

/-- The `w` pixels of row `k` of a buffer; none where the row lies outside it. -/
def Buffer.row (b : Buffer) (stride w k : Nat) : Option Row :=
  if (k + 1) * stride ≤ b.size then some ((List.range w).map (b.cells.pixel stride k)) else none

/-- Zero the `n` bytes from `a` on. -/
def Memory.clear : Memory → Nat → Nat → Memory
  | m, _, 0 => m
  | m, a, n + 1 => Memory.clear (m.write a 0) (a + 1) n

/-- `ClearRow(k)` on row `st.row` (60_exceptions.md R366); none where the row lies outside the buffer. -/
def State.clearRow (s : State) : Option State :=
  if (s.row + 1) * s.cfg.stride ≤ s.out.size then
    some { s with out := { s.out with cells := s.out.cells.clear (s.row * s.cfg.stride) s.cfg.stride } }
  else none

/-! ## The bit cursor (40_bit_cursor.md) -/

/-- `8*N`, the number of bits of the input. -/
def State.inBits (s : State) : Nat := 8 * s.cfg.input.size

/-- `InBit(p)` (40_bit_cursor.md R122): zero past the end, the byte flipped for fill order 2 (R126), most
significant bit first. -/
def State.inBit (s : State) (p : Nat) : Bool :=
  if s.inBits ≤ p then false
  else
    let b := s.cfg.input.cells.read (p / 8)
    (if s.fill = 2 then b.reverse else b).getLsbD (7 - p % 8)

/-- The `n` logical bits from `p` on. -/
def State.bitsFrom (s : State) (p n : Nat) : List Bool := (List.range n).map (fun j => s.inBit (p + j))

/-- `Peek(n)` (40_bit_cursor.md R123). -/
def State.peek (s : State) (n : Nat) : List Bool := s.bitsFrom s.cur n

/-- The cursor moved forward over the bits of a word. -/
def State.advanced (s : State) (n : Nat) : State := { s with cur := s.cur + n }

/-- `Read(n)` (40_bit_cursor.md R124): the value of the next `n` bits and the state past them. -/
def State.readBits (s : State) (n : Nat) : Nat × State := (bitsVal (s.peek n), s.advanced n)

/-- `Rewind(n)` (40_bit_cursor.md R125); none below bit 0, which no rule asks for. -/
def State.rewind (s : State) (n : Nat) : Option State :=
  if n ≤ s.cur then some { s with cur := s.cur - n } else none

/-- The bit of the LZW reader at `p`: most significant bit first, no fill order (46_lzw_decoder.md R301). -/
def State.lzwBit (s : State) (p : Nat) : Bool := (s.cfg.input.cells.read (p / 8)).getLsbD (7 - p % 8)

/-- The `n` bits at the LZW reader's position (46_lzw_decoder.md R301). -/
def State.lzwPeek (s : State) (n : Nat) : List Bool := (List.range n).map (fun j => s.lzwBit (s.cur + j))

/-- Is there an EOL word at bit `q` (44_image_decode.md R245)? -/
def State.eolAt (s : State) (q : Nat) : Bool := s.bitsFrom q 12 == eolWord

/-- `SearchEOL` from `q`, bit by bit, over at most `fuel` positions (44_image_decode.md R245): only an EOL that lies
inside the data is found. -/
def State.searchEolFrom (s : State) : Nat → Nat → Option Nat
  | 0, _ => none
  | fuel + 1, q =>
    if q + 12 ≤ s.inBits then (if s.eolAt q then some q else s.searchEolFrom fuel (q + 1)) else none

/-- `SearchEOL(p)` (44_image_decode.md R245): the first bit of the EOL found. -/
def State.searchEol (s : State) (p : Nat) : Option Nat := s.searchEolFrom (s.inBits - p) p

/-! ## Results (47_job_dispatch.md R343) -/

/-- The numeric code of a status (60_exceptions.md R360). -/
def Status.code : Status → Nat
  | .ok => 0
  | .malformedCode => 1
  | .prematureEOL => 2
  | .missingReferenceLine => 3
  | .overrunError => 4
  | .invalidLZWSequence => 5
  | .preconditionViolation => 6
  | .fallbackRequested => 7

/-- `OK` of a decode: the buffer, the failures, and the final reference line for Group 4 (44_image_decode.md R253). -/
def State.okResult (s : State) : JobResult where
  status := .ok
  out := some s.out
  failures := s.failures
  refOut := if s.cfg.op = .decodeG4 then some s.ref else none
  enc := none

/-- `FallbackRequested` with the buffer as it stands and `f` failures (60_exceptions.md R368, R371). -/
def State.fallbackResult (s : State) (f : Nat) : JobResult where
  status := .fallbackRequested
  out := some s.out
  failures := f
  refOut := none
  enc := none

/-- A result with no buffer: strict errors, `InvalidLZWSequence`, `PreconditionViolation`. -/
def errorResult (st : Status) : JobResult where
  status := st
  out := none
  failures := 0
  refOut := none
  enc := none

/-- `OK` of the encoder with its byte stream. -/
def encodeResult (bytes : List Byte) : JobResult where
  status := .ok
  out := none
  failures := 0
  refOut := none
  enc := some bytes

/-- The job returns `r`. The engine keeps no buffer (70_reset_and_hazards.md R407); the other working registers are
left as they are until the next job start and are not observable (10_state.md R33, log 5). -/
def State.finish (s : State) (r : JobResult) : State :=
  { s with phase := .idle, result := some r, out := Buffer.zeros 0 }

/-! ## Lines and rows (44_image_decode.md) -/

/-- Start `Line1D` (42_line_decoder_1d.md R171). -/
def State.start1D (s : State) : State := { s.atLineStart with phase := .run .line1D 0 0 }

/-- Start `Line2D` (43_line_decoder_2d.md R205). -/
def State.start2D (s : State) : State := { s.atLineStart with phase := .modeWord }

/-- After the EOL of a Group 3 line: the tag bit in `DECODE_G3_2D`, else the 1D line (44_image_decode.md R241,
R242). -/
def State.afterEol (s : State) : State :=
  if s.cfg.op = .decodeG32D then { s with phase := .tagBit } else s.start1D

/-- After a decoded row: the next row, or the end of the job (44_image_decode.md R240, R250, R252). -/
def State.afterRow (s : State) : State :=
  if s.row + 1 < s.cfg.height then
    if s.cfg.op = .decodeG4 then State.start2D { s with row := s.row + 1 }
    else { s with row := s.row + 1, phase := .lineStart }
  else s.finish s.okResult

/-- The end of a decoded line: the row becomes the reference line (44_image_decode.md R248, R250; 10_state.md R41). -/
def State.endLine (s : State) : Out :=
  match s.out.row s.cfg.stride s.cfg.width s.row with
  | some r => .next (s.withReference r).afterRow
  | none => .fault .outsideBuffer

/-! ## Raising an error (60_exceptions.md R360 to R376) -/

/-- The four error kinds of a fax line (60_exceptions.md R360). -/
inductive FaxError where
  | malformedCode
  | prematureEOL
  | missingReferenceLine
  | overrunError
  deriving DecidableEq, Repr

/-- The status a strict job ends with (60_exceptions.md R364). -/
def FaxError.status : FaxError → Status
  | .malformedCode => .malformedCode
  | .prematureEOL => .prematureEOL
  | .missingReferenceLine => .missingReferenceLine
  | .overrunError => .overrunError

/-- Group 3 resumption from position `p` (60_exceptions.md R367, 44_image_decode.md R245): the EOL found opens the
next row, or ends the job `OK` when no row is left; without one the job falls back, every row not reached counted
(R368). -/
def State.resumeFrom (s : State) (p : Nat) : State :=
  match s.searchEol p with
  | some q =>
    if s.row + 1 < s.cfg.height then State.afterEol { s with cur := q + 12, row := s.row + 1 }
    else
      let t := { s with cur := q + 12 }
      t.finish t.okResult
  | none => s.finish (s.fallbackResult (s.failures + (s.cfg.height - (s.row + 1))))

/-- The cursor after a raise may stand anywhere (93_implementation_defined.md Part 1 row 15, log 6). -/
def State.cursorOpen (s : State) : State :=
  { s with cur := Config.cursorAfterRaise s.freeCount, freeCount := s.freeCount + 1 }

/-- `raise E(p)` in a fax line, `p = st.cur` being the first bit of the failing word (60_exceptions.md R375). Strict: the
job returns the kind and no buffer (R364). Tolerant: the row is cleared (R366); Group 4 falls back with the rows from
this one on as failures (44_image_decode.md R255); Group 3 counts the row, invalidates the reference line and resumes
from `p` (R366, R367). There is no handler and no return from an error (R374). -/
def State.raise (s : State) (e : FaxError) : Out :=
  let t := s.cursorOpen
  if s.cfg.tolerant then
    match t.clearRow with
    | none => .fault .outsideBuffer
    | some u =>
      if s.cfg.op = .decodeG4 then .next (u.finish (u.fallbackResult (u.cfg.height - u.row)))
      else .next (State.resumeFrom { u.refInvalidated with failures := u.failures + 1 } s.cur)
  else .next (t.finish (errorResult e.status))

/-- The EOL of a Group 3 row is missing (44_image_decode.md R240, R244, R254). Strict: `MalformedCode`. Tolerant: for
row 0 the job falls back with every row failed and no search; a later row is skipped and counted, and the search starts
where the EOL was expected. The cursor is unchanged (R243). -/
def State.missingEol (s : State) : State :=
  if s.cfg.tolerant then
    if s.row = 0 then s.finish (s.fallbackResult s.cfg.height)
    else State.resumeFrom { s.refInvalidated with failures := s.failures + 1 } s.cur
  else s.finish (errorResult .malformedCode)

/-! ## The start of a job (47_job_dispatch.md R340, 60_exceptions.md R361, 70_reset_and_hazards.md R400) -/

/-- Is the fill order one of the two legal values (10_state.md R23)? -/
def JobConfig.fillOrderLegal (c : JobConfig) : Bool := decide (c.fillOrder = 1) || decide (c.fillOrder = 2)

/-- The checks on the sample layout of `DECODE_LZW` and `COPY_NONE` (10_state.md R25, 60_exceptions.md R361):
`HORIZONTAL` asks for 8-bit samples of both operations, as R25 and R321 say; the column of R361 names the first alone
(DEDUCED, log 9). -/
def JobConfig.samplesLegal (c : JobConfig) : Bool :=
  decide (1 ≤ c.samplesPerPixel) && decide (1 ≤ c.bitsPerSample) &&
    (decide (c.predictor = .none) || (decide (c.predictor = .horizontal) && decide (c.bitsPerSample = 8)))

/-- `Valid(cfg)` (60_exceptions.md R361, 10_state.md R25). -/
def JobConfig.valid (l : Limits) (c : JobConfig) : Bool :=
  decide (1 ≤ c.width) && decide (c.width ≤ l.maxWidth) && decide (c.height ≤ l.maxHeight) &&
    decide (c.input.size ≤ l.maxInBytes) &&
    match c.op with
    | .decodeG31D => c.fillOrderLegal && !c.twoD
    | .decodeG32D => c.fillOrderLegal && c.twoD
    | .decodeG4 => c.fillOrderLegal && (match c.refIn with
      | some r => decide (r.length = c.width)
      | none => true)
    | .decodeLzw => c.samplesLegal
    | .copyNone => c.samplesLegal
    | .encodeG4 => decide (c.input.size = (c.width + 7) / 8 * c.height)

/-- An all-white row (44_image_decode.md R251). -/
def whiteRow (w : Nat) : Row := List.replicate w .white

/-- `JobStart(cfg)` (70_reset_and_hazards.md R400): every working register at its value at job start and, but for the
encoder, a zeroed output buffer of `S * height` bytes. -/
def State.jobStart (s : State) (c : JobConfig) : State :=
  State.initTable { s with
    request := none
    result := none
    cfg := c
    cur := 0
    fill := c.fillOrder
    row := 0
    a0 := -1
    color := .white
    pos := 0
    failures := 0
    ref := whiteRow c.width
    refValid := decide (c.op = .decodeG4)
    lzwOut := 0
    encBits := []
    out := if c.op = .encodeG4 then Buffer.zeros 0 else Buffer.zeros (c.stride * c.height) }

/-- `Job(cfg)` (47_job_dispatch.md R340): the engine, idle, takes the submitted job of operation `op`; a configuration
that fails a check returns `PreconditionViolation` with no other effect (10_state.md R29), else the job starts and
`begin` is the operation's own beginning. -/
def State.takeJob (s : State) (op : Op) (begin : State → State) : Out :=
  match s.phase, s.request with
  | .idle, some c =>
    if c.op = op then
      if c.valid s.limits then .next (begin (s.jobStart c))
      else .next { s with request := none, result := some (errorResult .preconditionViolation) }
    else .refused .notInContext
  | _, _ => .refused .notInContext

/-- Does the port take a submission? Only when no job runs and none is pending: a submitted job cannot be stopped
(47_job_dispatch.md R346), so nothing may displace it. That a submission at any other time is refused, not queued, is
the model's choice: the spec says nothing of a second submission to one engine (DESIGN CHOICE, log 17). -/
def State.portOpen (s : State) : Bool := decide (s.phase = .idle) && s.request.isNone

/-- The host submits a job at the port (47_job_dispatch.md R340); no step does this (log 4). A closed port refuses the
submission and nothing changes, so that every job once submitted runs to its result (R346, log 17). -/
def State.submit (s : State) (c : JobConfig) : State :=
  { s with request := if s.portOpen then some c else s.request }

end Sys2Proof.Machine
end

