-- ==== Sys2Proof/Machine/Operands.lean ====
section
/-!
DEFINITION. The operands of the instructions: the changing elements and the reference positions of 2D coding, the run
a run word belongs to, what the encoder chooses, the strings an LZW code names.
-/
namespace Sys2Proof.Machine

/-! ## Changing elements (10_state.md R40, R42) -/

/-- The changing elements of the pixels from `x` on, `prev` being the pixel before them. -/
def transFrom (prev : Color) (x : Nat) : Row → List Nat
  | [] => []
  | c :: r => if c = prev then transFrom c (x + 1) r else x :: transFrom c (x + 1) r

/-- `Trans(r)` (10_state.md R40): pixel -1 is white. -/
def trans (r : Row) : List Nat := transFrom .white 0 r

/-- `CE(r) = Trans(r) ++ [width]` (10_state.md R42). -/
def changingElements (r : Row) : List Nat := trans r ++ [r.length]

/-- The colour of a row at `x`, the colour its changing element `x` changes to. -/
def colorAt (r : Row) (x : Nat) : Color := r.getD x .white

/-- `next(T, x)`: the first element right of `x`, or `w` (45_fax_encoder.md R273). -/
def nextElement (t : List Nat) (x : Int) (w : Nat) : Nat := (t.find? (fun y : Nat => decide (x < (y : Int)))).getD w

/-- `b1` (43_line_decoder_2d.md R201). -/
def State.b1 (s : State) : Nat :=
  ((trans s.ref).find?
    (fun x : Nat => decide (s.a0 < (x : Int)) && decide (colorAt s.ref x ≠ s.color))).getD s.cfg.width

/-- `b2` (43_line_decoder_2d.md R202). -/
def State.b2 (s : State) : Nat := nextElement (trans s.ref) s.b1 s.cfg.width

/-- `a0' = max(st.a0, 0)`, the first pixel the next mode paints (43_line_decoder_2d.md R200). -/
def State.a0p (s : State) : Nat := s.a0.toNat

/-- The colour of the run a run word belongs to (42_line_decoder_1d.md R171, 43_line_decoder_2d.md R207). -/
def State.runColor (s : State) : RunSite → Color
  | .line1D => s.color
  | .horizontal1 => s.color
  | .horizontal2 => flipColor s.color

/-! ## What the encoder emits next (45_fax_encoder.md) -/

/-- Row `st.row` of the encoder's input (45_fax_encoder.md R270); none where it lies outside the buffer. -/
def State.inputRow (s : State) : Option Row := s.cfg.input.row s.cfg.stride s.cfg.width s.row

/-- The mode word of offset `d` (45_fax_encoder.md R277). -/
def verticalWord (d : Int) : Instr :=
  if d = -3 then .vl3 else if d = -2 then .vl2 else if d = -1 then .vl1 else if d = 0 then .v0
  else if d = 1 then .vr1 else if d = 2 then .vr2 else .vr3

/-- `a1` (45_fax_encoder.md R273, R274). -/
def State.encoderA1 (s : State) (cur : Row) : Nat := nextElement (trans cur) s.a0 s.cfg.width

/-- `a2 = next(Tc, a1)` (45_fax_encoder.md R273, R278). -/
def State.encoderA2 (s : State) (cur : Row) : Nat := nextElement (trans cur) (s.encoderA1 cur) s.cfg.width

/-- The mode the encoder chooses: pass, then vertical within 3, then horizontal (45_fax_encoder.md R275). -/
def State.encoderMode (s : State) (cur : Row) : Instr :=
  let a1 := s.encoderA1 cur
  let d : Int := (a1 : Int) - (s.b1 : Int)
  if s.b2 < a1 then .p
  else if -3 ≤ d ∧ d ≤ 3 then verticalWord d
  else .h

/-- The run word the encoder emits when `n` pixels of colour `c` are left (45_fax_encoder.md R281, R282). -/
def encoderRunWord (c : Color) (n : Nat) : Instr :=
  if 2624 ≤ n then .xm2560
  else if 64 ≤ n then (makeupWords c).getD (n / 64 - 1) .xm2560
  else (terminatingWords c).getD n .wt0

/-! ## What an LZW code names (46_lzw_decoder.md R300, R302; 10_state.md R43) -/

/-- The string listed for an index. -/
def LzwTable.find : LzwTable → Nat → Option (List Byte)
  | [], _ => none
  | (j, w) :: t, i => if j = i then some w else LzwTable.find t i

/-- `st.lzw_tab[i]`: a listed entry, else what `InitTable` holds there: the byte `i` below 256, no string at 256 and
above. -/
def LzwTable.get (t : LzwTable) (i : Nat) : Option (List Byte) :=
  match t.find i with
  | some w => some w
  | none => if i < 256 then some [BitVec.ofNat 8 i] else none

/-- `st.lzw_tab[i] <- w`, indexes kept strictly rising. -/
def LzwTable.set : LzwTable → Nat → List Byte → LzwTable
  | [], i, w => [(i, w)]
  | (j, v) :: t, i, w =>
    if i < j then (i, w) :: (j, v) :: t else if i = j then (i, w) :: t else (j, v) :: LzwTable.set t i w

/-- The output capacity `cap`: the output buffer of a decode job has `S * height` bytes (46_lzw_decoder.md R304,
70_reset_and_hazards.md R400). -/
def State.cap (s : State) : Nat := s.out.size

/-- The LZW loop stops before the next code: the output is full (46_lzw_decoder.md R313) or fewer bits than a code are
left (R303). -/
def State.lzwStops (s : State) : Bool := decide (s.cap ≤ s.lzwOut) || decide (s.inBits < s.cur + s.lzwWidth)

end Sys2Proof.Machine
end

