-- ==== Sys2Proof/Machine/Line.lean ====
section
/-!
DEFINITION. The shared operations behind the meanings of the line decoders and of the encoder: one run word, the mode
words, the words of uncompressed mode. A word of a decoder is consumed at the bit cursor; the same word in the encoder
is emitted (45_fax_encoder.md R276 to R282).
-/
namespace Sys2Proof.Machine

/-! ## Decoding a run (42_line_decoder_1d.md R171, R172) -/

/-- A 2D mode is done: the line ends when `st.a0 = w` (43_line_decoder_2d.md R205, R234). -/
def State.endMode (s : State) : Out :=
  if s.a0 = (s.cfg.width : Int) then s.endLine else .next { s with phase := .modeWord }

/-- A run of `r` pixels from `x` is complete. A 1D line ends when `st.pos = w` and changes colour otherwise
(42_line_decoder_1d.md R171, R180); a horizontal mode goes on with its second run, or sets `st.a0`
(43_line_decoder_2d.md R207). -/
def State.endRun (s : State) (site : RunSite) (x r : Nat) : Out :=
  match site with
  | .line1D =>
    let t := { s with pos := s.pos + r }
    if t.pos = t.cfg.width then t.endLine else .next { t.flipped with phase := .run .line1D t.pos 0 }
  | .horizontal1 => .next { s with phase := .run .horizontal2 (x + r) 0 }
  | .horizontal2 => State.endMode { s with a0 := ((x + r : Nat) : Int) }

/-- One word of `DecodeRun` (42_line_decoder_1d.md R172): the width check comes before the paint, the paint before the
end of the run. `len` is the length of the word, `e` its table entry. -/
def State.decodeRunWord (s : State) (len : Nat) (e : RunEntry) (site : RunSite) (x total : Nat) : Out :=
  if s.cfg.width < x + total + e.run then s.raise .overrunError
  else
    match s.paint (x + total) (x + total + e.run) (s.runColor site) with
    | none => .fault .outsideBuffer
    | some t =>
      if e.terminating then (t.advanced len).endRun site x (total + e.run)
      else .next { t.advanced len with phase := .run site x (total + e.run) }

/-! ## Encoding a row (45_fax_encoder.md R272 to R279) -/

/-- `Emit(s)` (45_fax_encoder.md R272). -/
def State.emit (s : State) (w : List Bool) : State := { s with encBits := s.encBits ++ w }

/-- A row of the encoder begins (45_fax_encoder.md R273). -/
def State.startEncodeRow (s : State) : State := { s.atLineStart with phase := .encodeMode }

/-- A mode of the encoder is done: the row ends when `st.a0 >= w`; then it becomes the reference line and the next row
begins, or the end of block follows (45_fax_encoder.md R272, R279). -/
def State.endEncodeMode (s : State) : Out :=
  if s.a0 < (s.cfg.width : Int) then .next { s with phase := .encodeMode }
  else
    match s.inputRow with
    | none => .fault .outsideBuffer
    | some r =>
      let t := { s with ref := r }
      if t.row + 1 < t.cfg.height then .next (State.startEncodeRow { t with row := t.row + 1 })
      else .next { t with phase := .encodeEnd }

/-- One word of `EmitRun` (45_fax_encoder.md R281): the word must be the one the encoder chooses for the pixels left.
A terminating word ends the run: the second run of the horizontal mode follows, or `st.a0 <- a2` (R278). -/
def State.emitRunWord (s : State) (i : Instr) (e : RunEntry) : Out :=
  match s.phase with
  | .encodeRun1 left a1 a2 =>
    if i = encoderRunWord s.color left then
      let t := s.emit (encode 0 i)
      if e.terminating then .next { t with phase := .encodeRun2 (a2 - a1) a2 }
      else .next { t with phase := .encodeRun1 (left - e.run) a1 a2 }
    else .refused .notInContext
  | .encodeRun2 left a2 =>
    if i = encoderRunWord (flipColor s.color) left then
      let t := s.emit (encode 0 i)
      if e.terminating then State.endEncodeMode { t with a0 := (a2 : Int) }
      else .next { t with phase := .encodeRun2 (left - e.run) a2 }
    else .refused .notInContext
  | _ => .refused .notInContext

/-! ## Run words and mode words -/

/-- A run word: consumed by `DecodeRun` where a run of its colour is read, emitted by `EmitRun` in the encoder. -/
def State.runWord (s : State) (i : Instr) (e : RunEntry) : Out :=
  match s.phase with
  | .run site x total =>
    if runSpaceHas e.space (s.runColor site) then s.decodeRunWord (encode 0 i).length e site x total
    else .refused .notInContext
  | _ => s.emitRunWord i e

/-- A mode word: `dec` executes it at a mode position of a line decoder; `enc` emits it where the encoder chooses it
for the current row (45_fax_encoder.md R275). -/
def State.atModeWord (s : State) (i : Instr) (dec : State → Out) (enc : Row → State → Out) : Out :=
  match s.phase with
  | .modeWord => dec s
  | .encodeMode =>
    match s.inputRow with
    | none => .fault .outsideBuffer
    | some r => if s.encoderMode r = i then enc r s else .refused .notInContext
  | _ => .refused .notInContext

/-- `P` in a line decoder (43_line_decoder_2d.md R206). -/
def State.pass (s : State) : Out :=
  match s.paint s.a0p s.b2 s.color with
  | none => .fault .outsideBuffer
  | some t => State.endMode { t.advanced (encode 0 .p).length with a0 := (s.b2 : Int) }

/-- `EmitPass` (45_fax_encoder.md R276). -/
def State.emitPass (s : State) : Out :=
  State.endEncodeMode { s.emit (encode 0 .p) with a0 := (s.b2 : Int) }

/-- `H` in a line decoder: the first run begins at `a0'` (43_line_decoder_2d.md R207). -/
def State.horizontal (s : State) : Out :=
  .next { s.advanced (encode 0 .h).length with phase := .run .horizontal1 s.a0p 0 }

/-- `EmitHorizontal`: the word, then the two runs (45_fax_encoder.md R278). -/
def State.emitHorizontal (cur : Row) (s : State) : Out :=
  let a1 := s.encoderA1 cur
  .next { s.emit (encode 0 .h) with phase := .encodeRun1 (a1 - s.a0p) a1 (s.encoderA2 cur) }

/-- `Vert(d)` in a line decoder (43_line_decoder_2d.md R215): `a1` must lie right of `a0` and not past the width. -/
def State.vertical (i : Instr) (d : Int) (s : State) : Out :=
  let a1 : Int := (s.b1 : Int) + d
  if s.a0 < a1 ∧ a1 ≤ (s.cfg.width : Int) then
    match s.paint s.a0p a1.toNat s.color with
    | none => .fault .outsideBuffer
    | some t => State.endMode (State.flipped { t.advanced (encode 0 i).length with a0 := a1 })
  else s.raise .overrunError

/-- `EmitVertical(d)` (45_fax_encoder.md R277). -/
def State.emitVertical (i : Instr) (cur : Row) (s : State) : Out :=
  State.endEncodeMode (State.flipped { s.emit (encode 0 i) with a0 := (s.encoderA1 cur : Int) })

/-- A vertical mode word of offset `d`, decoded or emitted. -/
def State.verticalWordAt (i : Instr) (d : Int) (s : State) : Out :=
  s.atModeWord i (State.vertical i d) (State.emitVertical i)

/-- A word that raises `MalformedCode` at a mode position of a line decoder (43_line_decoder_2d.md R217 to R219). -/
def State.malformedMode (s : State) (g4 : Option Bool) : Out :=
  match s.phase with
  | .modeWord =>
    if g4 = none ∨ g4 = some (decide (s.cfg.op = .decodeG4)) then s.raise .malformedCode else .refused .notInContext
  | _ => .refused .notInContext

/-! ## Uncompressed mode (43_line_decoder_2d.md R216, R220, R221) -/

/-- `EXT.U` in a Group 4 line (43_line_decoder_2d.md R216). -/
def State.enterUncompressed (s : State) : Out :=
  match s.phase with
  | .modeWord =>
    if s.cfg.op = .decodeG4 then
      .next { s.advanced (encode 0 .extU).length with pos := s.a0p, phase := .uncompressed }
    else .refused .notInContext
  | _ => .refused .notInContext

/-- An image word: `z` white pixels and then, if `black`, one black pixel; checked in full before any pixel is painted
(43_line_decoder_2d.md R221 to R227). -/
def State.uncompressedImage (s : State) (i : Instr) (z : Nat) (black : Bool) : Out :=
  match s.phase with
  | .uncompressed =>
    let n := z + black.toNat
    if s.cfg.width < s.pos + n then s.raise .overrunError
    else
      match s.paint s.pos (s.pos + z) .white with
      | none => .fault .outsideBuffer
      | some t =>
        match t.paint (s.pos + z) (s.pos + n) .black with
        | none => .fault .outsideBuffer
        | some u => .next { u.advanced (encode 0 i).length with pos := s.pos + n }
  | _ => .refused .notInContext

/-- An exit word: `n` white pixels, then the colour of the tag, `st.a0 <- st.pos` and back to 2D coding
(43_line_decoder_2d.md R221, R228 to R232). -/
def State.uncompressedExit (s : State) (i : Instr) (n : Nat) (t : Bool) : Out :=
  match s.phase with
  | .uncompressed =>
    if s.cfg.width < s.pos + n then s.raise .overrunError
    else
      match s.paint s.pos (s.pos + n) .white with
      | none => .fault .outsideBuffer
      | some u =>
        State.endMode { u.advanced (encode 0 i).length with
          pos := s.pos + n, color := tagColor t, a0 := ((s.pos + n : Nat) : Int) }
  | _ => .refused .notInContext

end Sys2Proof.Machine
end

