-- ==== Sys2Proof/Machine/BlackRuns.lean ====
section
/-!
DEFINITION. The meanings of the black run words `BT<n>` and `BM<n>` (42_line_decoder_1d.md R176, R177).
-/
namespace Sys2Proof.Machine

/-- `BT0` (R176). -/
def execBt0 (s : State) : Out := s.runWord .bt0 ⟨.black, 0, true⟩

/-- `BT1` (R176). -/
def execBt1 (s : State) : Out := s.runWord .bt1 ⟨.black, 1, true⟩

/-- `BT2` (R176). -/
def execBt2 (s : State) : Out := s.runWord .bt2 ⟨.black, 2, true⟩

/-- `BT3` (R176). -/
def execBt3 (s : State) : Out := s.runWord .bt3 ⟨.black, 3, true⟩

/-- `BT4` (R176). -/
def execBt4 (s : State) : Out := s.runWord .bt4 ⟨.black, 4, true⟩

/-- `BT5` (R176). -/
def execBt5 (s : State) : Out := s.runWord .bt5 ⟨.black, 5, true⟩

/-- `BT6` (R176). -/
def execBt6 (s : State) : Out := s.runWord .bt6 ⟨.black, 6, true⟩

/-- `BT7` (R176). -/
def execBt7 (s : State) : Out := s.runWord .bt7 ⟨.black, 7, true⟩

/-- `BT8` (R176). -/
def execBt8 (s : State) : Out := s.runWord .bt8 ⟨.black, 8, true⟩

/-- `BT9` (R176). -/
def execBt9 (s : State) : Out := s.runWord .bt9 ⟨.black, 9, true⟩

/-- `BT10` (R176). -/
def execBt10 (s : State) : Out := s.runWord .bt10 ⟨.black, 10, true⟩

/-- `BT11` (R176). -/
def execBt11 (s : State) : Out := s.runWord .bt11 ⟨.black, 11, true⟩

/-- `BT12` (R176). -/
def execBt12 (s : State) : Out := s.runWord .bt12 ⟨.black, 12, true⟩

/-- `BT13` (R176). -/
def execBt13 (s : State) : Out := s.runWord .bt13 ⟨.black, 13, true⟩

/-- `BT14` (R176). -/
def execBt14 (s : State) : Out := s.runWord .bt14 ⟨.black, 14, true⟩

/-- `BT15` (R176). -/
def execBt15 (s : State) : Out := s.runWord .bt15 ⟨.black, 15, true⟩

/-- `BT16` (R176). -/
def execBt16 (s : State) : Out := s.runWord .bt16 ⟨.black, 16, true⟩

/-- `BT17` (R176). -/
def execBt17 (s : State) : Out := s.runWord .bt17 ⟨.black, 17, true⟩

/-- `BT18` (R176). -/
def execBt18 (s : State) : Out := s.runWord .bt18 ⟨.black, 18, true⟩

/-- `BT19` (R176). -/
def execBt19 (s : State) : Out := s.runWord .bt19 ⟨.black, 19, true⟩

/-- `BT20` (R176). -/
def execBt20 (s : State) : Out := s.runWord .bt20 ⟨.black, 20, true⟩

/-- `BT21` (R176). -/
def execBt21 (s : State) : Out := s.runWord .bt21 ⟨.black, 21, true⟩

/-- `BT22` (R176). -/
def execBt22 (s : State) : Out := s.runWord .bt22 ⟨.black, 22, true⟩

/-- `BT23` (R176). -/
def execBt23 (s : State) : Out := s.runWord .bt23 ⟨.black, 23, true⟩

/-- `BT24` (R176). -/
def execBt24 (s : State) : Out := s.runWord .bt24 ⟨.black, 24, true⟩

/-- `BT25` (R176). -/
def execBt25 (s : State) : Out := s.runWord .bt25 ⟨.black, 25, true⟩

/-- `BT26` (R176). -/
def execBt26 (s : State) : Out := s.runWord .bt26 ⟨.black, 26, true⟩

/-- `BT27` (R176). -/
def execBt27 (s : State) : Out := s.runWord .bt27 ⟨.black, 27, true⟩

/-- `BT28` (R176). -/
def execBt28 (s : State) : Out := s.runWord .bt28 ⟨.black, 28, true⟩

/-- `BT29` (R176). -/
def execBt29 (s : State) : Out := s.runWord .bt29 ⟨.black, 29, true⟩

/-- `BT30` (R176). -/
def execBt30 (s : State) : Out := s.runWord .bt30 ⟨.black, 30, true⟩

/-- `BT31` (R176). -/
def execBt31 (s : State) : Out := s.runWord .bt31 ⟨.black, 31, true⟩

/-- `BT32` (R176). -/
def execBt32 (s : State) : Out := s.runWord .bt32 ⟨.black, 32, true⟩

/-- `BT33` (R176). -/
def execBt33 (s : State) : Out := s.runWord .bt33 ⟨.black, 33, true⟩

/-- `BT34` (R176). -/
def execBt34 (s : State) : Out := s.runWord .bt34 ⟨.black, 34, true⟩

/-- `BT35` (R176). -/
def execBt35 (s : State) : Out := s.runWord .bt35 ⟨.black, 35, true⟩

/-- `BT36` (R176). -/
def execBt36 (s : State) : Out := s.runWord .bt36 ⟨.black, 36, true⟩

/-- `BT37` (R176). -/
def execBt37 (s : State) : Out := s.runWord .bt37 ⟨.black, 37, true⟩

/-- `BT38` (R176). -/
def execBt38 (s : State) : Out := s.runWord .bt38 ⟨.black, 38, true⟩

/-- `BT39` (R176). -/
def execBt39 (s : State) : Out := s.runWord .bt39 ⟨.black, 39, true⟩

/-- `BT40` (R176). -/
def execBt40 (s : State) : Out := s.runWord .bt40 ⟨.black, 40, true⟩

/-- `BT41` (R176). -/
def execBt41 (s : State) : Out := s.runWord .bt41 ⟨.black, 41, true⟩

/-- `BT42` (R176). -/
def execBt42 (s : State) : Out := s.runWord .bt42 ⟨.black, 42, true⟩

/-- `BT43` (R176). -/
def execBt43 (s : State) : Out := s.runWord .bt43 ⟨.black, 43, true⟩

/-- `BT44` (R176). -/
def execBt44 (s : State) : Out := s.runWord .bt44 ⟨.black, 44, true⟩

/-- `BT45` (R176). -/
def execBt45 (s : State) : Out := s.runWord .bt45 ⟨.black, 45, true⟩

/-- `BT46` (R176). -/
def execBt46 (s : State) : Out := s.runWord .bt46 ⟨.black, 46, true⟩

/-- `BT47` (R176). -/
def execBt47 (s : State) : Out := s.runWord .bt47 ⟨.black, 47, true⟩

/-- `BT48` (R176). -/
def execBt48 (s : State) : Out := s.runWord .bt48 ⟨.black, 48, true⟩

/-- `BT49` (R176). -/
def execBt49 (s : State) : Out := s.runWord .bt49 ⟨.black, 49, true⟩

/-- `BT50` (R176). -/
def execBt50 (s : State) : Out := s.runWord .bt50 ⟨.black, 50, true⟩

/-- `BT51` (R176). -/
def execBt51 (s : State) : Out := s.runWord .bt51 ⟨.black, 51, true⟩

/-- `BT52` (R176). -/
def execBt52 (s : State) : Out := s.runWord .bt52 ⟨.black, 52, true⟩

/-- `BT53` (R176). -/
def execBt53 (s : State) : Out := s.runWord .bt53 ⟨.black, 53, true⟩

/-- `BT54` (R176). -/
def execBt54 (s : State) : Out := s.runWord .bt54 ⟨.black, 54, true⟩

/-- `BT55` (R176). -/
def execBt55 (s : State) : Out := s.runWord .bt55 ⟨.black, 55, true⟩

/-- `BT56` (R176). -/
def execBt56 (s : State) : Out := s.runWord .bt56 ⟨.black, 56, true⟩

/-- `BT57` (R176). -/
def execBt57 (s : State) : Out := s.runWord .bt57 ⟨.black, 57, true⟩

/-- `BT58` (R176). -/
def execBt58 (s : State) : Out := s.runWord .bt58 ⟨.black, 58, true⟩

/-- `BT59` (R176). -/
def execBt59 (s : State) : Out := s.runWord .bt59 ⟨.black, 59, true⟩

/-- `BT60` (R176). -/
def execBt60 (s : State) : Out := s.runWord .bt60 ⟨.black, 60, true⟩

/-- `BT61` (R176). -/
def execBt61 (s : State) : Out := s.runWord .bt61 ⟨.black, 61, true⟩

/-- `BT62` (R176). -/
def execBt62 (s : State) : Out := s.runWord .bt62 ⟨.black, 62, true⟩

/-- `BT63` (R176). -/
def execBt63 (s : State) : Out := s.runWord .bt63 ⟨.black, 63, true⟩

/-- `BM64` (R177). -/
def execBm64 (s : State) : Out := s.runWord .bm64 ⟨.black, 64, false⟩

/-- `BM128` (R177). -/
def execBm128 (s : State) : Out := s.runWord .bm128 ⟨.black, 128, false⟩

/-- `BM192` (R177). -/
def execBm192 (s : State) : Out := s.runWord .bm192 ⟨.black, 192, false⟩

/-- `BM256` (R177). -/
def execBm256 (s : State) : Out := s.runWord .bm256 ⟨.black, 256, false⟩

/-- `BM320` (R177). -/
def execBm320 (s : State) : Out := s.runWord .bm320 ⟨.black, 320, false⟩

/-- `BM384` (R177). -/
def execBm384 (s : State) : Out := s.runWord .bm384 ⟨.black, 384, false⟩

/-- `BM448` (R177). -/
def execBm448 (s : State) : Out := s.runWord .bm448 ⟨.black, 448, false⟩

/-- `BM512` (R177). -/
def execBm512 (s : State) : Out := s.runWord .bm512 ⟨.black, 512, false⟩

/-- `BM576` (R177). -/
def execBm576 (s : State) : Out := s.runWord .bm576 ⟨.black, 576, false⟩

/-- `BM640` (R177). -/
def execBm640 (s : State) : Out := s.runWord .bm640 ⟨.black, 640, false⟩

/-- `BM704` (R177). -/
def execBm704 (s : State) : Out := s.runWord .bm704 ⟨.black, 704, false⟩

/-- `BM768` (R177). -/
def execBm768 (s : State) : Out := s.runWord .bm768 ⟨.black, 768, false⟩

/-- `BM832` (R177). -/
def execBm832 (s : State) : Out := s.runWord .bm832 ⟨.black, 832, false⟩

/-- `BM896` (R177). -/
def execBm896 (s : State) : Out := s.runWord .bm896 ⟨.black, 896, false⟩

/-- `BM960` (R177). -/
def execBm960 (s : State) : Out := s.runWord .bm960 ⟨.black, 960, false⟩

/-- `BM1024` (R177). -/
def execBm1024 (s : State) : Out := s.runWord .bm1024 ⟨.black, 1024, false⟩

/-- `BM1088` (R177). -/
def execBm1088 (s : State) : Out := s.runWord .bm1088 ⟨.black, 1088, false⟩

/-- `BM1152` (R177). -/
def execBm1152 (s : State) : Out := s.runWord .bm1152 ⟨.black, 1152, false⟩

/-- `BM1216` (R177). -/
def execBm1216 (s : State) : Out := s.runWord .bm1216 ⟨.black, 1216, false⟩

/-- `BM1280` (R177). -/
def execBm1280 (s : State) : Out := s.runWord .bm1280 ⟨.black, 1280, false⟩

/-- `BM1344` (R177). -/
def execBm1344 (s : State) : Out := s.runWord .bm1344 ⟨.black, 1344, false⟩

/-- `BM1408` (R177). -/
def execBm1408 (s : State) : Out := s.runWord .bm1408 ⟨.black, 1408, false⟩

/-- `BM1472` (R177). -/
def execBm1472 (s : State) : Out := s.runWord .bm1472 ⟨.black, 1472, false⟩

/-- `BM1536` (R177). -/
def execBm1536 (s : State) : Out := s.runWord .bm1536 ⟨.black, 1536, false⟩

/-- `BM1600` (R177). -/
def execBm1600 (s : State) : Out := s.runWord .bm1600 ⟨.black, 1600, false⟩

/-- `BM1664` (R177). -/
def execBm1664 (s : State) : Out := s.runWord .bm1664 ⟨.black, 1664, false⟩

/-- `BM1728` (R177). -/
def execBm1728 (s : State) : Out := s.runWord .bm1728 ⟨.black, 1728, false⟩

end Sys2Proof.Machine
end

