-- ==== Sys2Proof/Machine/ExtendedRuns.lean ====
section
/-!
DEFINITION. The meanings of the extended makeup words `XM<n>`, of either colour (42_line_decoder_1d.md R178).
-/
namespace Sys2Proof.Machine

/-- `XM1792` (R178). -/
def execXm1792 (s : State) : Out := s.runWord .xm1792 ⟨.shared, 1792, false⟩

/-- `XM1856` (R178). -/
def execXm1856 (s : State) : Out := s.runWord .xm1856 ⟨.shared, 1856, false⟩

/-- `XM1920` (R178). -/
def execXm1920 (s : State) : Out := s.runWord .xm1920 ⟨.shared, 1920, false⟩

/-- `XM1984` (R178). -/
def execXm1984 (s : State) : Out := s.runWord .xm1984 ⟨.shared, 1984, false⟩

/-- `XM2048` (R178). -/
def execXm2048 (s : State) : Out := s.runWord .xm2048 ⟨.shared, 2048, false⟩

/-- `XM2112` (R178). -/
def execXm2112 (s : State) : Out := s.runWord .xm2112 ⟨.shared, 2112, false⟩

/-- `XM2176` (R178). -/
def execXm2176 (s : State) : Out := s.runWord .xm2176 ⟨.shared, 2176, false⟩

/-- `XM2240` (R178). -/
def execXm2240 (s : State) : Out := s.runWord .xm2240 ⟨.shared, 2240, false⟩

/-- `XM2304` (R178). -/
def execXm2304 (s : State) : Out := s.runWord .xm2304 ⟨.shared, 2304, false⟩

/-- `XM2368` (R178). -/
def execXm2368 (s : State) : Out := s.runWord .xm2368 ⟨.shared, 2368, false⟩

/-- `XM2432` (R178). -/
def execXm2432 (s : State) : Out := s.runWord .xm2432 ⟨.shared, 2432, false⟩

/-- `XM2496` (R178). -/
def execXm2496 (s : State) : Out := s.runWord .xm2496 ⟨.shared, 2496, false⟩

/-- `XM2560` (R178). -/
def execXm2560 (s : State) : Out := s.runWord .xm2560 ⟨.shared, 2560, false⟩

end Sys2Proof.Machine
end

