-- ==== Sys2Proof/Machine/Framing.lean ====
section
/-!
DEFINITION. The meanings of `EOL`, `TAG1` and `TAG0` (44_image_decode.md R240 to R247).
-/
namespace Sys2Proof.Machine

/-- `EOL` with `fill` zero bits before it. At a line start it is consumed, fill and all, and the line begins; fill bits
are allowed only with `FILL_BITS` (44_image_decode.md R243, R257). Where a run word or a mode word is expected it raises
`PrematureEOL` (41_run_length_codes.md R151, 43_line_decoder_2d.md R204). -/
def execEol (fill : Nat) (s : State) : Out :=
  match s.phase with
  | .lineStart =>
    if fill = 0 ∨ s.cfg.fillBits = true then .next (s.advanced (encode 0 (.eol fill)).length).afterEol
    else .refused .notInContext
  | .run _ _ _ => if fill = 0 then s.raise .prematureEOL else .refused .notInContext
  | .modeWord => if fill = 0 then s.raise .prematureEOL else .refused .notInContext
  | _ => .refused .notInContext

/-- `TAG1`: a 1D-coded line follows (44_image_decode.md R242, R246). -/
def execTag1 (s : State) : Out :=
  match s.phase with
  | .tagBit => .next (s.advanced (encode 0 .tag1).length).start1D
  | _ => .refused .notInContext

/-- `TAG0`: a 2D-coded line follows; without a valid reference line `MissingReferenceLine` is raised at the tag bit
(44_image_decode.md R242, R246, R247). -/
def execTag0 (s : State) : Out :=
  match s.phase with
  | .tagBit =>
    if s.refValid then .next (s.advanced (encode 0 .tag0).length).start2D else s.raise .missingReferenceLine
  | _ => .refused .notInContext

end Sys2Proof.Machine
end

