-- ==== Sys2Proof/Machine/Jobs.lean ====
section
/-!
DEFINITION. The meanings of the six job submissions (47_job_dispatch.md R340 to R342, 44_image_decode.md R240, R250,
46_lzw_decoder.md R304, 45_fax_encoder.md R272) and of the encoder's end of block (45_fax_encoder.md R284, R285).
-/
namespace Sys2Proof.Machine

/-- The beginning of `ImageG3`: row 0, or the end of a job of height 0 (44_image_decode.md R240, R256). -/
def State.beginG3 (s : State) : State :=
  if s.cfg.height = 0 then s.finish s.okResult else { s with phase := .lineStart }

/-- The beginning of `ImageG4`: the initial reference line (44_image_decode.md R250, R251, R256). -/
def State.beginG4 (s : State) : State :=
  let t := { s with ref := s.cfg.refIn.getD s.ref }
  if t.cfg.height = 0 then t.finish t.okResult else t.start2D

/-- The beginning of `DecodeLZW` (46_lzw_decoder.md R304). -/
def State.beginLzw (s : State) : State := { s with phase := .lzw }

/-- `CopyNone()`: `min(N, S*h)` bytes copied to the same offsets, no predictor (47_job_dispatch.md R342). -/
def State.copyNone (s : State) : State :=
  let n := min s.cfg.input.size s.out.size
  let t := { s with out := { s.out with cells := s.out.cells.store 0 ((List.range n).map s.cfg.input.cells.read) } }
  t.finish t.okResult

/-- The beginning of `EncodeG4`: the first row, or the end of block of a job of height 0 (45_fax_encoder.md R272,
R286). -/
def State.beginEncode (s : State) : State :=
  if s.cfg.height = 0 then { s with phase := .encodeEnd } else s.startEncodeRow

/-- `JOB.DECODE_G3_1D` (47_job_dispatch.md R340, R341; 44_image_decode.md R240). -/
def execJobDecodeG31D (s : State) : Out := s.takeJob .decodeG31D State.beginG3

/-- `JOB.DECODE_G3_2D` (47_job_dispatch.md R340, R341; 44_image_decode.md R240). -/
def execJobDecodeG32D (s : State) : Out := s.takeJob .decodeG32D State.beginG3

/-- `JOB.DECODE_G4` (47_job_dispatch.md R340, R341; 44_image_decode.md R250). -/
def execJobDecodeG4 (s : State) : Out := s.takeJob .decodeG4 State.beginG4

/-- `JOB.DECODE_LZW` (47_job_dispatch.md R340, R341; 46_lzw_decoder.md R304). -/
def execJobDecodeLzw (s : State) : Out := s.takeJob .decodeLzw State.beginLzw

/-- `JOB.COPY_NONE` (47_job_dispatch.md R340 to R342). -/
def execJobCopyNone (s : State) : Out := s.takeJob .copyNone State.copyNone

/-- `JOB.ENCODE_G4` (47_job_dispatch.md R340, R341; 45_fax_encoder.md R272). -/
def execJobEncodeG4 (s : State) : Out := s.takeJob .encodeG4 State.beginEncode

/-- Byte `j` of `Pack(bits)`: bits `8j .. 8j+7`, the first the most significant, zeros past the end
(45_fax_encoder.md R285). -/
def packedByte (bits : List Bool) (j : Nat) : Byte :=
  BitVec.ofNat 8 (bitsVal ((List.range 8).map (fun i => bits.getD (8 * j + i) false)))

/-- `Pack(bits)` (45_fax_encoder.md R285). -/
def pack (bits : List Bool) : List Byte := (List.range ((bits.length + 7) / 8)).map (packedByte bits)

/-- `EOFB`: the encoder emits two EOL words after the last row and the job returns the packed stream
(45_fax_encoder.md R272, R284, R285). -/
def execEofb (s : State) : Out :=
  match s.phase with
  | .encodeEnd =>
    let t := s.emit (encode 0 .eofb)
    .next (t.finish (encodeResult (pack t.encBits)))
  | _ => .refused .notInContext

end Sys2Proof.Machine
end

