-- ==== Sys2Proof/Machine/Lzw.lean ====
section
/-!
DEFINITION. The LZW decoder: output, the string table, the predictor reversal, and the meanings of the LZW codes
(46_lzw_decoder.md).
-/
namespace Sys2Proof.Machine

/-- `Output(w)`: the bytes that fit before `cap` are written at `st.lzw_out` on, the rest dropped
(46_lzw_decoder.md R313). -/
def State.lzwOutput (s : State) (w : List Byte) : State :=
  let n := min w.length (s.cap - s.lzwOut)
  { s with
    out := { s.out with cells := s.out.cells.store s.lzwOut (w.take n) }
    lzwOut := s.lzwOut + n }

/-- `AddEntry(new)` for the code just read: the width steps at 511, 1023 and 2047, the implicit reset at 4095
(46_lzw_decoder.md R304, R311, R312). -/
def State.addEntry (s : State) (code : Nat) (new : List Byte) : State :=
  let t := { s with
    lzwTab := s.lzwTab.set s.lzwNext new
    lzwNext := s.lzwNext + 1
    lzwWidth := widthAfterAdd (s.lzwNext + 1) s.lzwWidth }
  if t.lzwNext = Config.lzwFull then t.initTable else { t with lzwPrev := some code }

/-- One row of `Unpredict`: `n` bytes from address `a` on get the byte `spp` places earlier added modulo 256
(46_lzw_decoder.md R320). -/
def Memory.unpredictRow (spp : Nat) : Nat → Nat → Memory → Memory
  | 0, _, m => m
  | n + 1, a, m => Memory.unpredictRow spp n (a + 1) (m.write a (m.read a + m.read (a - spp)))

/-- `n` rows of `Unpredict` from row `j` on. -/
def Memory.unpredictRows (stride spp samples : Nat) : Nat → Nat → Memory → Memory
  | 0, _, m => m
  | n + 1, j, m =>
    Memory.unpredictRows stride spp samples n (j + 1) (m.unpredictRow spp (samples - spp) (j * stride + spp))

/-- `Unpredict()` over the whole output buffer (46_lzw_decoder.md R320); none where the rows do not lie in the buffer,
which no job does. -/
def State.unpredict (s : State) : Option State :=
  let samples := s.cfg.width * s.cfg.samplesPerPixel
  if samples ≤ s.cfg.stride ∧ s.cfg.stride * s.cfg.height ≤ s.out.size then
    some { s with out := { s.out with
      cells := s.out.cells.unpredictRows s.cfg.stride s.cfg.samplesPerPixel samples s.cfg.height 0 } }
  else none

/-- The LZW loop is left: the predictor is reversed if the job asks for it, and the job ends `OK`
(46_lzw_decoder.md R304). -/
def State.finishLzw (s : State) : Out :=
  if s.cfg.predictor = .horizontal then
    match s.unpredict with
    | some t => .next (t.finish t.okResult)
    | none => .fault .outsideBuffer
  else .next (s.finish s.okResult)

/-- An LZW code in the loop: `body` executes it after `LZWRead` moved the reader past it
(46_lzw_decoder.md R301, R304). -/
def State.atLzwCode (s : State) (body : State → Out) : Out :=
  match s.phase with
  | .lzw => body (s.advanced s.lzwWidth)
  | _ => .refused .notInContext

/-- `CLR` (46_lzw_decoder.md R307). -/
def execLzwClr (s : State) : Out := s.atLzwCode fun t => .next t.initTable

/-- `END` (46_lzw_decoder.md R305). -/
def execLzwEnd (s : State) : Out := s.atLzwCode fun t => t.finishLzw

/-- The first data code after a reset: a literal byte, no table entry (46_lzw_decoder.md R306). -/
def execLzwFirst (c : Nat) (s : State) : Out :=
  s.atLzwCode fun t =>
    if t.lzwPrev = none ∧ c ≤ 255 then
      match t.lzwTab.get c with
      | some w => .next { t.lzwOutput w with lzwPrev := some c }
      | none => .fault .emptyTableEntry
    else .refused .notInContext

/-- A data code that names an entry (46_lzw_decoder.md R308). -/
def execLzwEntry (code : Nat) (s : State) : Out :=
  s.atLzwCode fun t =>
    match t.lzwPrev with
    | none => .refused .notInContext
    | some prev =>
      if code < t.lzwNext ∧ code ≠ Config.lzwClear ∧ code ≠ Config.lzwEnd then
        match t.lzwTab.get code, t.lzwTab.get prev with
        | some (b :: w), some v => .next ((t.lzwOutput (b :: w)).addEntry code (v ++ [b]))
        | _, _ => .fault .emptyTableEntry
      else .refused .notInContext

/-- The KwKwK data code, `code = st.lzw_next` (46_lzw_decoder.md R309). -/
def execLzwKwkwk (code : Nat) (s : State) : Out :=
  s.atLzwCode fun t =>
    match t.lzwPrev with
    | none => .refused .notInContext
    | some prev =>
      if code = t.lzwNext then
        match t.lzwTab.get prev with
        | some (b :: v) => .next ((t.lzwOutput (b :: v ++ [b])).addEntry code (b :: v ++ [b]))
        | _ => .fault .emptyTableEntry
      else .refused .notInContext

/-- A data code beyond the table, or 258 and above right after a reset: `InvalidLZWSequence`, fatal whatever
`cfg.tolerant` is, no buffer (46_lzw_decoder.md R306, R310; 60_exceptions.md R369). -/
def execLzwInvalid (code : Nat) (s : State) : Out :=
  s.atLzwCode fun t =>
    if Config.lzwFirst ≤ code ∧ (t.lzwPrev = none ∨ t.lzwNext < code) then
      .next (t.cursorOpen.finish (errorResult .invalidLZWSequence))
    else .refused .notInContext

end Sys2Proof.Machine
end

