-- ==== Sys2Proof/Machine/Modes.lean ====
section
/-!
DEFINITION. The meanings of the 2D mode words (43_line_decoder_2d.md R206 to R219; emitted, 45_fax_encoder.md R276 to
R278).
-/
namespace Sys2Proof.Machine

/-- `P`, pass mode (43_line_decoder_2d.md R206, 45_fax_encoder.md R276). -/
def execP (s : State) : Out := s.atModeWord .p State.pass (fun _ => State.emitPass)

/-- `H`, horizontal mode (43_line_decoder_2d.md R207, 45_fax_encoder.md R278). -/
def execH (s : State) : Out := s.atModeWord .h State.horizontal State.emitHorizontal

/-- `VL3` (43_line_decoder_2d.md R214, 45_fax_encoder.md R277). -/
def execVl3 (s : State) : Out := s.verticalWordAt .vl3 (-3)

/-- `VL2` (R213). -/
def execVl2 (s : State) : Out := s.verticalWordAt .vl2 (-2)

/-- `VL1` (R212). -/
def execVl1 (s : State) : Out := s.verticalWordAt .vl1 (-1)

/-- `V0` (R208). -/
def execV0 (s : State) : Out := s.verticalWordAt .v0 0

/-- `VR1` (R209). -/
def execVr1 (s : State) : Out := s.verticalWordAt .vr1 1

/-- `VR2` (R210). -/
def execVr2 (s : State) : Out := s.verticalWordAt .vr2 2

/-- `VR3` (R211). -/
def execVr3 (s : State) : Out := s.verticalWordAt .vr3 3

/-- `EXT.U`, entry to uncompressed mode in a Group 4 line (43_line_decoder_2d.md R216). -/
def execExtU (s : State) : Out := s.enterUncompressed

/-- `EXT` with a reserved selector in a Group 4 line: `MalformedCode` at the `EXT` word (43_line_decoder_2d.md R217). -/
def execExtRes (sel : BitVec 3) (s : State) : Out :=
  if sel = 7#3 then .refused .notInContext else s.malformedMode (some true)

/-- `EXT` in a Group 3 line, any selector: `MalformedCode` at the `EXT` word (43_line_decoder_2d.md R219; the
`UNCOMPRESSED` option does not matter, 44_image_decode.md R249). -/
def execExtG3 (_sel : BitVec 3) (s : State) : Out := s.malformedMode (some false)

/-- No mode word: `MalformedCode` (43_line_decoder_2d.md R218). -/
def execModeInvalid (_x : Bool) (s : State) : Out := s.malformedMode none

end Sys2Proof.Machine
end

