-- ==== Sys2Proof/Machine/Uncompressed.lean ====
section
/-!
DEFINITION. The meanings of the words of uncompressed mode (43_line_decoder_2d.md R220 to R233).
-/
namespace Sys2Proof.Machine

/-- `U.B` (43_line_decoder_2d.md R222). -/
def execUB (s : State) : Out := s.uncompressedImage .uB 0 true

/-- `U.WB` (R223). -/
def execUWB (s : State) : Out := s.uncompressedImage .uWB 1 true

/-- `U.WWB` (R224). -/
def execUWWB (s : State) : Out := s.uncompressedImage .uWWB 2 true

/-- `U.WWWB` (R225). -/
def execUWWWB (s : State) : Out := s.uncompressedImage .uWWWB 3 true

/-- `U.WWWWB` (R226). -/
def execUWWWWB (s : State) : Out := s.uncompressedImage .uWWWWB 4 true

/-- `U.WWWWW` (R227). -/
def execUWWWWW (s : State) : Out := s.uncompressedImage .uWWWWW 5 false

/-- `U.X0.T<t>` (R228). -/
def execUX0 (t : Bool) (s : State) : Out := s.uncompressedExit (.uX0 t) 0 t

/-- `U.X1.T<t>` (R229). -/
def execUX1 (t : Bool) (s : State) : Out := s.uncompressedExit (.uX1 t) 1 t

/-- `U.X2.T<t>` (R230). -/
def execUX2 (t : Bool) (s : State) : Out := s.uncompressedExit (.uX2 t) 2 t

/-- `U.X3.T<t>` (R231). -/
def execUX3 (t : Bool) (s : State) : Out := s.uncompressedExit (.uX3 t) 3 t

/-- `U.X4.T<t>` (R232). -/
def execUX4 (t : Bool) (s : State) : Out := s.uncompressedExit (.uX4 t) 4 t

/-- Eleven zeros: `MalformedCode` at the first of them (R233). -/
def execUInvalid (s : State) : Out :=
  match s.phase with
  | .uncompressed => s.raise .malformedCode
  | _ => .refused .notInContext

end Sys2Proof.Machine
end

