-- ==== Sys2Proof/Machine/WhiteRuns.lean ====
section
/-!
DEFINITION. The meanings of the white run words `WT<n>` and `WM<n>` (42_line_decoder_1d.md R174, R175).
-/
namespace Sys2Proof.Machine

/-- `WT0` (R174). -/
def execWt0 (s : State) : Out := s.runWord .wt0 ⟨.white, 0, true⟩

/-- `WT1` (R174). -/
def execWt1 (s : State) : Out := s.runWord .wt1 ⟨.white, 1, true⟩

/-- `WT2` (R174). -/
def execWt2 (s : State) : Out := s.runWord .wt2 ⟨.white, 2, true⟩

/-- `WT3` (R174). -/
def execWt3 (s : State) : Out := s.runWord .wt3 ⟨.white, 3, true⟩

/-- `WT4` (R174). -/
def execWt4 (s : State) : Out := s.runWord .wt4 ⟨.white, 4, true⟩

/-- `WT5` (R174). -/
def execWt5 (s : State) : Out := s.runWord .wt5 ⟨.white, 5, true⟩

/-- `WT6` (R174). -/
def execWt6 (s : State) : Out := s.runWord .wt6 ⟨.white, 6, true⟩

/-- `WT7` (R174). -/
def execWt7 (s : State) : Out := s.runWord .wt7 ⟨.white, 7, true⟩

/-- `WT8` (R174). -/
def execWt8 (s : State) : Out := s.runWord .wt8 ⟨.white, 8, true⟩

/-- `WT9` (R174). -/
def execWt9 (s : State) : Out := s.runWord .wt9 ⟨.white, 9, true⟩

/-- `WT10` (R174). -/
def execWt10 (s : State) : Out := s.runWord .wt10 ⟨.white, 10, true⟩

/-- `WT11` (R174). -/
def execWt11 (s : State) : Out := s.runWord .wt11 ⟨.white, 11, true⟩

/-- `WT12` (R174). -/
def execWt12 (s : State) : Out := s.runWord .wt12 ⟨.white, 12, true⟩

/-- `WT13` (R174). -/
def execWt13 (s : State) : Out := s.runWord .wt13 ⟨.white, 13, true⟩

/-- `WT14` (R174). -/
def execWt14 (s : State) : Out := s.runWord .wt14 ⟨.white, 14, true⟩

/-- `WT15` (R174). -/
def execWt15 (s : State) : Out := s.runWord .wt15 ⟨.white, 15, true⟩

/-- `WT16` (R174). -/
def execWt16 (s : State) : Out := s.runWord .wt16 ⟨.white, 16, true⟩

/-- `WT17` (R174). -/
def execWt17 (s : State) : Out := s.runWord .wt17 ⟨.white, 17, true⟩

/-- `WT18` (R174). -/
def execWt18 (s : State) : Out := s.runWord .wt18 ⟨.white, 18, true⟩

/-- `WT19` (R174). -/
def execWt19 (s : State) : Out := s.runWord .wt19 ⟨.white, 19, true⟩

/-- `WT20` (R174). -/
def execWt20 (s : State) : Out := s.runWord .wt20 ⟨.white, 20, true⟩

/-- `WT21` (R174). -/
def execWt21 (s : State) : Out := s.runWord .wt21 ⟨.white, 21, true⟩

/-- `WT22` (R174). -/
def execWt22 (s : State) : Out := s.runWord .wt22 ⟨.white, 22, true⟩

/-- `WT23` (R174). -/
def execWt23 (s : State) : Out := s.runWord .wt23 ⟨.white, 23, true⟩

/-- `WT24` (R174). -/
def execWt24 (s : State) : Out := s.runWord .wt24 ⟨.white, 24, true⟩

/-- `WT25` (R174). -/
def execWt25 (s : State) : Out := s.runWord .wt25 ⟨.white, 25, true⟩

/-- `WT26` (R174). -/
def execWt26 (s : State) : Out := s.runWord .wt26 ⟨.white, 26, true⟩

/-- `WT27` (R174). -/
def execWt27 (s : State) : Out := s.runWord .wt27 ⟨.white, 27, true⟩

/-- `WT28` (R174). -/
def execWt28 (s : State) : Out := s.runWord .wt28 ⟨.white, 28, true⟩

/-- `WT29` (R174). -/
def execWt29 (s : State) : Out := s.runWord .wt29 ⟨.white, 29, true⟩

/-- `WT30` (R174). -/
def execWt30 (s : State) : Out := s.runWord .wt30 ⟨.white, 30, true⟩

/-- `WT31` (R174). -/
def execWt31 (s : State) : Out := s.runWord .wt31 ⟨.white, 31, true⟩

/-- `WT32` (R174). -/
def execWt32 (s : State) : Out := s.runWord .wt32 ⟨.white, 32, true⟩

/-- `WT33` (R174). -/
def execWt33 (s : State) : Out := s.runWord .wt33 ⟨.white, 33, true⟩

/-- `WT34` (R174). -/
def execWt34 (s : State) : Out := s.runWord .wt34 ⟨.white, 34, true⟩

/-- `WT35` (R174). -/
def execWt35 (s : State) : Out := s.runWord .wt35 ⟨.white, 35, true⟩

/-- `WT36` (R174). -/
def execWt36 (s : State) : Out := s.runWord .wt36 ⟨.white, 36, true⟩

/-- `WT37` (R174). -/
def execWt37 (s : State) : Out := s.runWord .wt37 ⟨.white, 37, true⟩

/-- `WT38` (R174). -/
def execWt38 (s : State) : Out := s.runWord .wt38 ⟨.white, 38, true⟩

/-- `WT39` (R174). -/
def execWt39 (s : State) : Out := s.runWord .wt39 ⟨.white, 39, true⟩

/-- `WT40` (R174). -/
def execWt40 (s : State) : Out := s.runWord .wt40 ⟨.white, 40, true⟩

/-- `WT41` (R174). -/
def execWt41 (s : State) : Out := s.runWord .wt41 ⟨.white, 41, true⟩

/-- `WT42` (R174). -/
def execWt42 (s : State) : Out := s.runWord .wt42 ⟨.white, 42, true⟩

/-- `WT43` (R174). -/
def execWt43 (s : State) : Out := s.runWord .wt43 ⟨.white, 43, true⟩

/-- `WT44` (R174). -/
def execWt44 (s : State) : Out := s.runWord .wt44 ⟨.white, 44, true⟩

/-- `WT45` (R174). -/
def execWt45 (s : State) : Out := s.runWord .wt45 ⟨.white, 45, true⟩

/-- `WT46` (R174). -/
def execWt46 (s : State) : Out := s.runWord .wt46 ⟨.white, 46, true⟩

/-- `WT47` (R174). -/
def execWt47 (s : State) : Out := s.runWord .wt47 ⟨.white, 47, true⟩

/-- `WT48` (R174). -/
def execWt48 (s : State) : Out := s.runWord .wt48 ⟨.white, 48, true⟩

/-- `WT49` (R174). -/
def execWt49 (s : State) : Out := s.runWord .wt49 ⟨.white, 49, true⟩

/-- `WT50` (R174). -/
def execWt50 (s : State) : Out := s.runWord .wt50 ⟨.white, 50, true⟩

/-- `WT51` (R174). -/
def execWt51 (s : State) : Out := s.runWord .wt51 ⟨.white, 51, true⟩

/-- `WT52` (R174). -/
def execWt52 (s : State) : Out := s.runWord .wt52 ⟨.white, 52, true⟩

/-- `WT53` (R174). -/
def execWt53 (s : State) : Out := s.runWord .wt53 ⟨.white, 53, true⟩

/-- `WT54` (R174). -/
def execWt54 (s : State) : Out := s.runWord .wt54 ⟨.white, 54, true⟩

/-- `WT55` (R174). -/
def execWt55 (s : State) : Out := s.runWord .wt55 ⟨.white, 55, true⟩

/-- `WT56` (R174). -/
def execWt56 (s : State) : Out := s.runWord .wt56 ⟨.white, 56, true⟩

/-- `WT57` (R174). -/
def execWt57 (s : State) : Out := s.runWord .wt57 ⟨.white, 57, true⟩

/-- `WT58` (R174). -/
def execWt58 (s : State) : Out := s.runWord .wt58 ⟨.white, 58, true⟩

/-- `WT59` (R174). -/
def execWt59 (s : State) : Out := s.runWord .wt59 ⟨.white, 59, true⟩

/-- `WT60` (R174). -/
def execWt60 (s : State) : Out := s.runWord .wt60 ⟨.white, 60, true⟩

/-- `WT61` (R174). -/
def execWt61 (s : State) : Out := s.runWord .wt61 ⟨.white, 61, true⟩

/-- `WT62` (R174). -/
def execWt62 (s : State) : Out := s.runWord .wt62 ⟨.white, 62, true⟩

/-- `WT63` (R174). -/
def execWt63 (s : State) : Out := s.runWord .wt63 ⟨.white, 63, true⟩

/-- `WM64` (R175). -/
def execWm64 (s : State) : Out := s.runWord .wm64 ⟨.white, 64, false⟩

/-- `WM128` (R175). -/
def execWm128 (s : State) : Out := s.runWord .wm128 ⟨.white, 128, false⟩

/-- `WM192` (R175). -/
def execWm192 (s : State) : Out := s.runWord .wm192 ⟨.white, 192, false⟩

/-- `WM256` (R175). -/
def execWm256 (s : State) : Out := s.runWord .wm256 ⟨.white, 256, false⟩

/-- `WM320` (R175). -/
def execWm320 (s : State) : Out := s.runWord .wm320 ⟨.white, 320, false⟩

/-- `WM384` (R175). -/
def execWm384 (s : State) : Out := s.runWord .wm384 ⟨.white, 384, false⟩

/-- `WM448` (R175). -/
def execWm448 (s : State) : Out := s.runWord .wm448 ⟨.white, 448, false⟩

/-- `WM512` (R175). -/
def execWm512 (s : State) : Out := s.runWord .wm512 ⟨.white, 512, false⟩

/-- `WM576` (R175). -/
def execWm576 (s : State) : Out := s.runWord .wm576 ⟨.white, 576, false⟩

/-- `WM640` (R175). -/
def execWm640 (s : State) : Out := s.runWord .wm640 ⟨.white, 640, false⟩

/-- `WM704` (R175). -/
def execWm704 (s : State) : Out := s.runWord .wm704 ⟨.white, 704, false⟩

/-- `WM768` (R175). -/
def execWm768 (s : State) : Out := s.runWord .wm768 ⟨.white, 768, false⟩

/-- `WM832` (R175). -/
def execWm832 (s : State) : Out := s.runWord .wm832 ⟨.white, 832, false⟩

/-- `WM896` (R175). -/
def execWm896 (s : State) : Out := s.runWord .wm896 ⟨.white, 896, false⟩

/-- `WM960` (R175). -/
def execWm960 (s : State) : Out := s.runWord .wm960 ⟨.white, 960, false⟩

/-- `WM1024` (R175). -/
def execWm1024 (s : State) : Out := s.runWord .wm1024 ⟨.white, 1024, false⟩

/-- `WM1088` (R175). -/
def execWm1088 (s : State) : Out := s.runWord .wm1088 ⟨.white, 1088, false⟩

/-- `WM1152` (R175). -/
def execWm1152 (s : State) : Out := s.runWord .wm1152 ⟨.white, 1152, false⟩

/-- `WM1216` (R175). -/
def execWm1216 (s : State) : Out := s.runWord .wm1216 ⟨.white, 1216, false⟩

/-- `WM1280` (R175). -/
def execWm1280 (s : State) : Out := s.runWord .wm1280 ⟨.white, 1280, false⟩

/-- `WM1344` (R175). -/
def execWm1344 (s : State) : Out := s.runWord .wm1344 ⟨.white, 1344, false⟩

/-- `WM1408` (R175). -/
def execWm1408 (s : State) : Out := s.runWord .wm1408 ⟨.white, 1408, false⟩

/-- `WM1472` (R175). -/
def execWm1472 (s : State) : Out := s.runWord .wm1472 ⟨.white, 1472, false⟩

/-- `WM1536` (R175). -/
def execWm1536 (s : State) : Out := s.runWord .wm1536 ⟨.white, 1536, false⟩

/-- `WM1600` (R175). -/
def execWm1600 (s : State) : Out := s.runWord .wm1600 ⟨.white, 1600, false⟩

/-- `WM1664` (R175). -/
def execWm1664 (s : State) : Out := s.runWord .wm1664 ⟨.white, 1664, false⟩

/-- `WM1728` (R175). -/
def execWm1728 (s : State) : Out := s.runWord .wm1728 ⟨.white, 1728, false⟩

end Sys2Proof.Machine
end

