-- ==== Sys2Proof/Machine/Fetch.lean ====
section
/-!
DEFINITION. Fetching: the code space the state selects (30_encoding.md R97), the next instruction in it, and what the
engine does where there is none.
-/
namespace Sys2Proof.Machine

/-- Why a step executes no instruction. -/
inductive Event where
  /-- No job runs and none is submitted: the engine waits (47_job_dispatch.md R347). -/
  | waiting
  /-- No run word matches (41_run_length_codes.md R152). -/
  | noRunWord
  /-- The EOL of a Group 3 row is missing (44_image_decode.md R240, R244). -/
  | noEol
  /-- The LZW loop stops before a code (46_lzw_decoder.md R303, R313). -/
  | lzwStop
  deriving DecidableEq, Repr

/-- What a step finds: an instruction or an event. -/
inductive Fetched where
  | word (i : Instr)
  | event (e : Event)
  deriving DecidableEq, Repr

/-- The code space of the decoder's next word (30_encoding.md R97); none where no code word is read. -/
def State.space (s : State) : Option Space :=
  match s.phase with
  | .lineStart => some (.frame s.cfg.fillBits)
  | .tagBit => some .tag
  | .run site _ _ => some (.run (s.runColor site))
  | .modeWord => some (.mode (decide (s.cfg.op = .decodeG4)))
  | .uncompressed => some .uncompressed
  | .lzw => some (.lzw s.lzwWidth s.lzwNext s.lzwPrev.isNone)
  | .idle => none
  | .encodeMode => none
  | .encodeRun1 _ _ _ => none
  | .encodeRun2 _ _ => none
  | .encodeEnd => none

/-- The bits the decoder looks at: the rest of the data where an EOL may have fill before it (44_image_decode.md R243),
the code's own bits for LZW (46_lzw_decoder.md R301), else 13 bits of look-ahead (30_encoding.md R93). -/
def State.window (s : State) : List Bool :=
  match s.phase with
  | .lineStart => if s.cfg.fillBits then s.bitsFrom s.cur (s.inBits - s.cur) else s.peek 12
  | .lzw => s.lzwPeek s.lzwWidth
  | _ => s.peek 13

/-- The decoder's answer as a step takes it. -/
def Fetched.ofDecoded : Decoded → Fetched
  | .word i => .word i
  | .reject .noRunWord => .event .noRunWord
  | .reject .noEol => .event .noEol
  | .reject .noEndOfBlock => .event .noEol

/-- The instruction or event at this state. The decoders read the stream; the port gives the submitted job's
instruction; the encoder gives the word it chooses (45_fax_encoder.md R273, R281, R284). -/
def State.fetch (s : State) : Fetched :=
  match s.space with
  | some sp =>
    if s.phase = .lzw ∧ s.lzwStops = true then .event .lzwStop else Fetched.ofDecoded (decode sp s.window)
  | none =>
    match s.phase with
    | .encodeMode => .word (s.encoderMode (s.inputRow.getD []))
    | .encodeRun1 left _ _ => .word (encoderRunWord s.color left)
    | .encodeRun2 left _ => .word (encoderRunWord (flipColor s.color) left)
    | .encodeEnd => .word .eofb
    | _ =>
      match s.request with
      | some c => .word c.op.instr
      | none => .event .waiting

/-- What the engine does at an event. -/
def State.handle (s : State) : Event → Out
  | .waiting => .next s
  | .noRunWord => s.raise .malformedCode
  | .noEol => .next s.missingEol
  | .lzwStop => s.finishLzw

/-- The bytes of a word as the input holds it: most significant bit first, zeros after it (20_memory.md R68 with fill
order 1). -/
def wordBytes (bits : List Bool) : List Byte := pack bits ++ [0, 0]

/-- A running job of operation `op`, width 2560 and one row, whose input begins with the word of `i`, standing at
`phase`; its reference line is white up to pixel 3 and black from 4 on. -/
def State.atWord (s : State) (i : Instr) (op : Op) (options : BitVec 32) (phase : Phase) (color : Color) : State :=
  let c : JobConfig := { JobConfig.blank with
    op := op
    width := 2560
    height := 1
    bitsPerSample := 8
    t4Options := options
    input := Buffer.ofBytes (wordBytes (encode 9 i)) }
  { s.jobStart c with
    phase := phase
    color := color
    ref := List.replicate 4 .white ++ List.replicate 2556 .black
    refValid := true }

/-- The context in which the engine reads an instruction next, its word at the start of the input (log 4, log 7). -/
def State.withWord (s : State) (i : Instr) : State :=
  match i with
  | .eol _ => s.atWord i .decodeG31D 4 .lineStart .white
  | .tag1 => s.atWord i .decodeG32D 1 .tagBit .white
  | .tag0 => s.atWord i .decodeG32D 1 .tagBit .white
  | .extG3 _ => s.atWord i .decodeG32D 1 .modeWord .white
  | .eofb => s.atWord i .encodeG4 0 .encodeEnd .white
  | _ =>
    match i.runEntry with
    | some e => s.atWord i .decodeG31D 0 (.run .line1D 0 0) (if e.space = .black then .black else .white)
    | none =>
      if Space.uncompressed.admits i then s.atWord i .decodeG4 0 .uncompressed .white
      else if (Space.mode true).admits i then s.atWord i .decodeG4 0 .modeWord .white
      else if (Space.lzw 9 258 true).admits i then s.atWord i .decodeLzw 0 .lzw .white
      else s

end Sys2Proof.Machine
end

