-- ==== Sys2Proof/Machine/Step.lean ====
section
/-!
DEFINITION. One step of the engine, and the state in which the next step reads a given word.
-/
namespace Sys2Proof.Machine

/-- One step: the instruction at this state is executed, or the event at it handled. -/
def step (s : State) : Host.Outcome State Fault Refusal :=
  match s.fetch with
  | .word i => exec i s
  | .event e => s.handle e

/-- The state in which the very next step reads the table word `w` (log 4, log 7). -/
def State.withFetchWord (s : State) (nbits w : Nat) : State :=
  match decodeTableWord nbits w with
  | some i => s.withWord i
  | none => s

end Sys2Proof.Machine
end

