-- ==== Sys2Proof/Safety.lean ====
section
/-!
DEFINITION. What the claims mean by a legal state and a safe run: the ranges of 10_state.md R20 and what the pseudocode
makes true at each of its positions.
-/
namespace Sys2Proof.Machine

/-- Is this one of the three fax decode operations? -/
def isFaxDecode : Op → Bool
  | .decodeG31D => true
  | .decodeG32D => true
  | .decodeG4 => true
  | .decodeLzw => false
  | .copyNone => false
  | .encodeG4 => false

/-- The width of the next LZW code when the table is at `next` (46_lzw_decoder.md R311). -/
def lzwWidthAt (next : Nat) : Nat :=
  if next < 511 then 9 else if next < 1023 then 10 else if next < 2047 then 11 else 12

/-- The string table is as 10_state.md R43 says: entries `258 .. lzw_next - 1` hold the strings added, none empty; the
width follows the index (46_lzw_decoder.md R311); there is no previous code only right after a reset, and a previous
code names an entry. -/
def State.lzwLegal (s : State) : Bool :=
  decide (258 ≤ s.lzwNext) && decide (s.lzwNext ≤ 4094) &&
    decide (s.lzwTab.map Prod.fst = List.range' 258 (s.lzwNext - 258)) &&
    s.lzwTab.all (fun e => !e.2.isEmpty) &&
    decide (s.lzwWidth = lzwWidthAt s.lzwNext) &&
    match s.lzwPrev with
    | none => decide (s.lzwNext = 258)
    | some p => decide (p < s.lzwNext) && decide (p ≠ 256) && decide (p ≠ 257)

/-- Every register that 10_state.md R20 bounds by the configuration is in its range, at every position: `-1 <= a0 <= w`,
`pos <= w`, `row <= h`, `failures <= h`, `lzw_out` within the capacity, the reference line a row of `w` pixels, and
`fill` the configuration's fill order (one of 1 and 2 where validation asks for it). -/
def State.inRange (s : State) : Bool :=
  decide (-1 ≤ s.a0) && decide (s.a0 ≤ (s.cfg.width : Int)) && decide (s.pos ≤ s.cfg.width) &&
    decide (s.row ≤ s.cfg.height) && decide (s.failures ≤ s.cfg.height) && decide (s.ref.length = s.cfg.width) &&
    decide (s.fill = s.cfg.fillOrder) && decide (s.lzwOut ≤ s.cfg.stride * s.cfg.height)

/-- A row of a fax decode job is in progress: the configuration passed validation, the output buffer has its
`S * height` bytes, the row is one of them, the failures are earlier rows; in a Group 4 job the reference line is valid
and no row has failed (44_image_decode.md R250, R255). -/
def State.decodingRow (s : State) : Bool :=
  s.cfg.valid s.limits && isFaxDecode s.cfg.op && decide (s.row < s.cfg.height) &&
    decide (s.out.size = s.cfg.stride * s.cfg.height) && decide (s.failures ≤ s.row) &&
    (decide (s.cfg.op ≠ .decodeG4) || (s.refValid && decide (s.failures = 0)))

/-- `-1 <= a0 < w`: a 2D line, or a row of the encoder, is not yet at its end (43_line_decoder_2d.md R200, R205). -/
def State.a0Inside (s : State) : Bool := decide (-1 ≤ s.a0) && decide (s.a0 < (s.cfg.width : Int))

/-- A row of an encode job is in progress. -/
def State.encodingRow (s : State) : Bool :=
  s.cfg.valid s.limits && decide (s.cfg.op = .encodeG4) && decide (s.row < s.cfg.height)

/-- What holds at each position of the pseudocode. -/
def State.phaseLegal (s : State) : Bool :=
  match s.phase with
  | .idle => true
  | .lineStart => s.decodingRow && decide (s.cfg.op ≠ .decodeG4)
  | .tagBit => s.decodingRow && decide (s.cfg.op = .decodeG32D)
  | .run .line1D x total =>
    s.decodingRow && decide (s.cfg.op ≠ .decodeG4) && decide (x = s.pos) && decide (s.pos < s.cfg.width) &&
      decide (x + total ≤ s.cfg.width)
  | .run .horizontal1 x total =>
    s.decodingRow && decide (s.cfg.op ≠ .decodeG31D) && s.a0Inside && decide (x = s.a0p) &&
      decide (x + total ≤ s.cfg.width)
  | .run .horizontal2 x total =>
    s.decodingRow && decide (s.cfg.op ≠ .decodeG31D) && s.a0Inside && decide (s.a0p ≤ x) &&
      decide (x + total ≤ s.cfg.width)
  | .modeWord => s.decodingRow && decide (s.cfg.op ≠ .decodeG31D) && s.a0Inside
  | .uncompressed =>
    s.decodingRow && decide (s.cfg.op = .decodeG4) && s.a0Inside && decide (s.a0p ≤ s.pos)
  | .lzw =>
    s.cfg.valid s.limits && decide (s.cfg.op = .decodeLzw) && decide (s.out.size = s.cfg.stride * s.cfg.height)
  | .encodeMode => s.encodingRow && s.a0Inside
  | .encodeRun1 left a1 a2 =>
    s.encodingRow && s.a0Inside && decide (s.a0 < (a1 : Int)) && decide (left ≤ a1) && decide (a1 ≤ a2) &&
      decide (a2 ≤ s.cfg.width)
  | .encodeRun2 left a2 =>
    s.encodingRow && s.a0Inside && decide (s.a0 < (a2 : Int)) && decide (left ≤ a2) && decide (a2 ≤ s.cfg.width)
  | .encodeEnd => s.cfg.valid s.limits && decide (s.cfg.op = .encodeG4)

/-- Every buffer of the state is in canonical form: the latched input, a submitted job's input, the output buffer and
the last result's. -/
def State.buffersWf (s : State) : Bool :=
  s.cfg.input.wf && s.out.wf && s.request.all (fun c => c.input.wf) &&
    s.result.all (fun r => r.out.all Buffer.wf)

/-- The address in the output buffer of the first byte that holds only pixels from `x` on of row `st.row`. -/
def State.byteFrom (s : State) (x : Nat) : Nat := s.row * s.cfg.stride + (x + 7) / 8

/-- The address from which on nothing has been written to the output buffer yet: row `st.row` before its line begins,
the byte after the last pixel decoded inside a line, `st.lzw_out` in the LZW loop; 0 where there is no output buffer. -/
def State.unwrittenFrom (s : State) : Nat :=
  match s.phase with
  | .lineStart => s.byteFrom 0
  | .tagBit => s.byteFrom 0
  | .run _ x total => s.byteFrom (x + total)
  | .modeWord => s.byteFrom s.a0p
  | .uncompressed => s.byteFrom s.pos
  | .lzw => s.lzwOut
  | .idle => 0
  | .encodeMode => 0
  | .encodeRun1 _ _ _ => 0
  | .encodeRun2 _ _ => 0
  | .encodeEnd => 0

/-- No byte is listed in the part of the output buffer that nothing has written, so each reads 0 (20_memory.md R66). -/
def State.restUnlisted (s : State) : Bool := s.out.cells.all (fun c => decide (c.1 < s.unwrittenFrom))

/-- The legal states: canonical buffers, a legal string table, every register in its range, the rest of the output
buffer unwritten, and what holds at the position of the pseudocode. -/
def State.legal (s : State) : Bool :=
  s.buffersWf && s.lzwLegal && s.inRange && s.restUnlisted && s.phaseLegal

/-- The invariant of the machine. -/
abbrev State.Inv (s : State) : Prop := s.legal = true

/-- What `State.restUnlisted` says, through reads: every byte of the output buffer that nothing has written reads 0, so
in a fax decode job every byte of the rows after `st.row`, and of row `st.row` before its line begins; in the LZW loop
every byte from `st.lzw_out` on (20_memory.md R66, 46_lzw_decoder.md R314). -/
def State.restClear (s : State) : Prop := ∀ a, s.unwrittenFrom ≤ a → s.out.cells.read a = 0

/-- The padding bits of every row of the output buffer are 0 (20_memory.md R66). -/
def State.paddingClear (s : State) : Prop :=
  ∀ k x, k < s.cfg.height → s.cfg.width ≤ x → x < 8 * s.cfg.stride →
    s.out.cells.pixel s.cfg.stride k x = .white

/-- The bit cursor of a fax decode job is at most 13 bits past the end of the data (10_state.md R21), and at a tag bit
not past it, because an EOL lies inside the data (44_image_decode.md R243, R245). -/
def State.cursorNear (s : State) : Prop :=
  s.cur ≤ s.inBits + 13 ∧ (s.phase = .tagBit → s.cur ≤ s.inBits)

/-- A run of `n` steps from `s` is safe when it meets neither a fault nor a refusal. -/
def SafeFor (n : Nat) (s : State) : Prop := ∃ t, Host.Core.run Sys2Proof.core n s = .next t

/-! ## What a store, a paint and a predictor reversal leave in a buffer, said through reads -/

/-- `b` is `a` with the pixels `x0..x1-1` of row `k` painted in colour `c` (20_memory.md R65): those pixels have the
colour, every other pixel of every row is as before, and so is every byte that holds none of them. -/
def Buffer.Painted (a : Buffer) (stride k x0 x1 : Nat) (c : Color) (b : Buffer) : Prop :=
  b.size = a.size ∧ b.wf = true ∧
  (∀ x, x0 ≤ x → x < x1 → b.cells.pixel stride k x = c) ∧
  (∀ j x, x < 8 * stride → (j ≠ k ∨ x < x0 ∨ x1 ≤ x) → b.cells.pixel stride j x = a.cells.pixel stride j x) ∧
  (∀ d, (∀ x, x0 ≤ x → x < x1 → pixelAddr stride k x ≠ d) → b.cells.read d = a.cells.read d)

/-- `b` is `a` with the bytes of `l` stored from address `d` on and every other byte as before. -/
def Buffer.Stored (a : Buffer) (d : Nat) (l : List Byte) (b : Buffer) : Prop :=
  b.size = a.size ∧ b.wf = true ∧
  (∀ j (h : j < l.length), b.cells.read (d + j) = l[j]) ∧
  (∀ x, x < d ∨ d + l.length ≤ x → b.cells.read x = a.cells.read x)

/-- `b` is `a` with the `stride` bytes of row `k` zero and every other byte as before (60_exceptions.md R366). -/
def Buffer.RowCleared (a : Buffer) (stride k : Nat) (b : Buffer) : Prop :=
  b.size = a.size ∧ b.wf = true ∧
  (∀ x, k * stride ≤ x → x < (k + 1) * stride → b.cells.read x = 0) ∧
  (∀ x, x < k * stride ∨ (k + 1) * stride ≤ x → b.cells.read x = a.cells.read x)

/-- `b` is `a` after `Unpredict` (46_lzw_decoder.md R320): in every row the first `samplesPerPixel` bytes are as before
and each later byte is its old value plus, modulo 256, the new byte `samplesPerPixel` places earlier. -/
def Buffer.Unpredicted (a : Buffer) (c : JobConfig) (b : Buffer) : Prop :=
  b.size = a.size ∧ b.wf = true ∧
  ∀ j i, j < c.height → i < c.width * c.samplesPerPixel →
    b.cells.read (j * c.stride + i) =
      if i < c.samplesPerPixel then a.cells.read (j * c.stride + i)
      else a.cells.read (j * c.stride + i) + b.cells.read (j * c.stride + i - c.samplesPerPixel)

/-! ## What the end of a run, a mode, a line or a job leaves -/

/-- The job in `s` is over in `t` and has returned `r` (10_state.md R33); the port and the limits are as before. -/
def JobEnds (s t : State) (r : JobResult) : Prop :=
  t.phase = .idle ∧ t.result = some r ∧ t.request = s.request ∧ t.limits = s.limits

/-- The pixels of row `st.row` of the output buffer. -/
def State.decodedRow (s : State) : Row := (List.range s.cfg.width).map (s.out.cells.pixel s.cfg.stride s.row)

/-- The pixels of row `st.row` of the encoder's input. -/
def State.sourceRow (s : State) : Row := (List.range s.cfg.width).map (s.cfg.input.cells.pixel s.cfg.stride s.row)

/-- The line decoded in `s` ends and `t` follows (44_image_decode.md R240, R248, R250, R253): the row becomes the
reference line; the next line of a Group 4 job or the next EOL of a Group 3 job follows, or the job ends `OK`. -/
def LineEnds (s t : State) : Prop :=
  (s.row + 1 < s.cfg.height ∧ s.cfg.op = .decodeG4 ∧
    t = { s with
      ref := s.decodedRow
      refValid := true
      row := s.row + 1
      a0 := -1
      color := .white
      pos := 0
      phase := .modeWord }) ∨
  (s.row + 1 < s.cfg.height ∧ s.cfg.op ≠ .decodeG4 ∧
    t = { s with
      ref := s.decodedRow
      refValid := true
      row := s.row + 1
      phase := .lineStart }) ∨
  (s.cfg.height ≤ s.row + 1 ∧
    JobEnds s t
      { status := .ok
        out := some s.out
        failures := s.failures
        refOut := if s.cfg.op = .decodeG4 then some s.decodedRow else none
        enc := none })

/-- A mode of a 2D line is done in `s` and `t` follows (43_line_decoder_2d.md R205, R234). -/
def ModeDone (s t : State) : Prop :=
  (s.a0 ≠ (s.cfg.width : Int) ∧ t = { s with phase := .modeWord }) ∨
  (s.a0 = (s.cfg.width : Int) ∧ LineEnds s t)

/-- A run of `r` pixels from `x` on is complete in `s` and `t` follows (42_line_decoder_1d.md R171,
43_line_decoder_2d.md R207). -/
def RunDone (s : State) (site : RunSite) (x r : Nat) (t : State) : Prop :=
  match site with
  | .line1D =>
    (s.pos + r ≠ s.cfg.width ∧
      t = { s with
        pos := s.pos + r
        color := flipColor s.color
        phase := .run .line1D (s.pos + r) 0 }) ∨
    (s.pos + r = s.cfg.width ∧ LineEnds { s with pos := s.pos + r } t)
  | .horizontal1 => t = { s with phase := .run .horizontal2 (x + r) 0 }
  | .horizontal2 => ModeDone { s with a0 := ((x + r : Nat) : Int) } t

/-- A mode of the encoder is done in `s` and `t` follows (45_fax_encoder.md R272, R273, R279). -/
def EncoderModeDone (s t : State) : Prop :=
  (s.a0 < (s.cfg.width : Int) ∧ t = { s with phase := .encodeMode }) ∨
  ((s.cfg.width : Int) ≤ s.a0 ∧ s.row + 1 < s.cfg.height ∧
    t = { s with
      ref := s.sourceRow
      row := s.row + 1
      a0 := -1
      color := .white
      pos := 0
      phase := .encodeMode }) ∨
  ((s.cfg.width : Int) ≤ s.a0 ∧ s.cfg.height ≤ s.row + 1 ∧
    t = { s with
      ref := s.sourceRow
      phase := .encodeEnd })

/-! ## What an error leaves (60_exceptions.md) -/

/-- `q` is the first bit, at or after `p`, of an EOL word that lies inside the data (44_image_decode.md R245). -/
def FirstEol (s : State) (p q : Nat) : Prop :=
  p ≤ q ∧ q + 12 ≤ s.inBits ∧ s.bitsFrom q 12 = eolWord ∧ ∀ x, p ≤ x → x < q → s.bitsFrom x 12 ≠ eolWord

/-- Row `st.row` of a Group 3 job was given up in `s`, and the search for the next EOL from `p` leads to `t`
(60_exceptions.md R367, R368): the EOL found opens the next row, or ends a job that has no row left; without one the
job falls back and every row not reached is counted. -/
def Resumes (s : State) (p : Nat) (t : State) : Prop :=
  (∃ q, FirstEol s p q ∧
    ((s.row + 1 < s.cfg.height ∧ s.cfg.op = .decodeG32D ∧
        t = { s with
          cur := q + 12
          row := s.row + 1
          phase := .tagBit }) ∨
      (s.row + 1 < s.cfg.height ∧ s.cfg.op ≠ .decodeG32D ∧
        t = { s with
          cur := q + 12
          row := s.row + 1
          a0 := -1
          color := .white
          pos := 0
          phase := .run .line1D 0 0 }) ∨
      (s.cfg.height ≤ s.row + 1 ∧
        JobEnds s t
          { status := .ok
            out := some s.out
            failures := s.failures
            refOut := none
            enc := none }))) ∨
  ((∀ q, ¬FirstEol s p q) ∧
    JobEnds s t
      { status := .fallbackRequested
        out := some s.out
        failures := s.failures + (s.cfg.height - (s.row + 1))
        refOut := none
        enc := none })

/-- An error of kind `st` was raised in `s`, at the bit `s.cur`, and `t` follows (60_exceptions.md R364 to R368,
44_image_decode.md R255): a strict job returns the kind and no buffer; a tolerant Group 4 job clears the row and falls
back; a tolerant Group 3 job clears the row, counts it, invalidates the reference line and resumes. The counter of free
values, the model's own field (log 6), may take any value. -/
def Raised (s : State) (st : Status) (t : State) : Prop :=
  (s.cfg.tolerant = false ∧
    JobEnds s t
      { status := st
        out := none
        failures := 0
        refOut := none
        enc := none }) ∨
  (s.cfg.tolerant = true ∧ s.cfg.op = .decodeG4 ∧
    ∃ b, s.out.RowCleared s.cfg.stride s.row b ∧
      JobEnds s t
        { status := .fallbackRequested
          out := some b
          failures := s.cfg.height - s.row
          refOut := none
          enc := none }) ∨
  (s.cfg.tolerant = true ∧ s.cfg.op ≠ .decodeG4 ∧
    ∃ b n, s.out.RowCleared s.cfg.stride s.row b ∧
      ∃ c, Resumes
        { s with
          cur := c
          out := b
          failures := s.failures + 1
          refValid := false
          freeCount := n } s.cur t)

/-! ## What an LZW code leaves (46_lzw_decoder.md) -/

/-- The entry `new` was added for the code `code` read in `s` and `t` follows: one more entry and the width of R311, or
the implicit reset when the index reaches 4095 (R312). -/
def EntryAdded (s : State) (code : Nat) (new : List Byte) (t : State) : Prop :=
  (s.lzwNext + 1 = 4095 ∧
    t = { s with
      lzwTab := []
      lzwNext := 258
      lzwWidth := 9
      lzwPrev := none }) ∨
  (s.lzwNext + 1 ≠ 4095 ∧
    t = { s with
      lzwTab := s.lzwTab.set s.lzwNext new
      lzwNext := s.lzwNext + 1
      lzwWidth := lzwWidthAt (s.lzwNext + 1)
      lzwPrev := some code })

/-- `b` is what the buffer of `s` becomes where the LZW loop is left (46_lzw_decoder.md R304, R314): the bytes written
with zeros after them, the predictor reversed over the whole buffer if the job asks for it. -/
def LzwOutput (s : State) (b : Buffer) : Prop :=
  (∀ a, s.lzwOut ≤ a → s.out.cells.read a = 0) ∧
  (s.cfg.predictor = .horizontal → s.out.Unpredicted s.cfg b) ∧ (s.cfg.predictor ≠ .horizontal → b = s.out)

/-- The LZW loop is left in `s` and `t` follows (R304, R314): the job ends `OK` with its buffer. -/
def LzwEnds (s t : State) : Prop :=
  ∃ b, LzwOutput s b ∧
    JobEnds s t
      { status := .ok
        out := some b
        failures := s.failures
        refOut := none
        enc := none }

/-! ## What an ended job returns (47_job_dispatch.md R343) -/

/-- `bytes` is `Pack(bits)` (45_fax_encoder.md R285): `ceil(len / 8)` bytes, the first bit the most significant, zeros
after the last. -/
def Packed (bits : List Bool) (bytes : List Byte) : Prop :=
  bytes.length = (bits.length + 7) / 8 ∧
  ∀ j (h : j < bytes.length) i, i < 8 → bytes[j].getLsbD (7 - i) = bits.getD (8 * j + i) false

/-- `b` is the buffer of the job that ends in the step from `s` to `t` (20_memory.md R61): `S * height` bytes. A fax
decoder's last word has changed the row it stood in and no other; the LZW decoder's is the one its loop left
(46_lzw_decoder.md R304); the pass-through copy's is the input's bytes and zeros after them (R342). -/
def JobBuffer (s t : State) (b : Buffer) : Prop :=
  b.size = t.cfg.stride * t.cfg.height ∧ b.wf = true ∧
  (isFaxDecode t.cfg.op = true → ∀ a, a < s.row * t.cfg.stride ∨ (s.row + 1) * t.cfg.stride ≤ a →
    b.cells.read a = s.out.cells.read a) ∧
  (t.cfg.op = .decodeLzw → LzwOutput s b) ∧
  (t.cfg.op = .copyNone → ∀ a, b.cells.read a =
    if a < min t.cfg.input.size (t.cfg.stride * t.cfg.height) then t.cfg.input.cells.read a else 0)

/-- The last row of the buffer `b` of a fax job that ended `OK` in `t`: the reference line where it is valid, and all
zero where the row was abandoned or skipped (44_image_decode.md R248, R250, R254). -/
def LastRowIs (t : State) (b : Buffer) : Prop :=
  (t.refValid = true → t.ref = (List.range t.cfg.width).map (b.cells.pixel t.cfg.stride (t.cfg.height - 1))) ∧
  (t.refValid = false → ∀ a, (t.cfg.height - 1) * t.cfg.stride ≤ a → b.cells.read a = 0)

/-! ## The operands of the families -/

/-- The width an LZW space reads; the other spaces have none. -/
def codeWidth : Space → Nat
  | .lzw width _ _ => width
  | .frame _ => 0
  | .tag => 0
  | .run _ => 0
  | .mode _ => 0
  | .uncompressed => 0
  | .endOfBlock => 0

/-- The seven vertical modes and their offsets (43_line_decoder_2d.md R203). -/
def verticalModes : List (Instr × Int) :=
  [(.vl3, -3), (.vl2, -2), (.vl1, -1), (.v0, 0), (.vr1, 1), (.vr2, 2), (.vr3, 3)]

/-- The image words of uncompressed mode, the white pixels and the black pixels each writes (43_line_decoder_2d.md
R220). -/
def imageWords : List (Instr × Nat × Nat) :=
  [(.uB, 0, 1), (.uWB, 1, 1), (.uWWB, 2, 1), (.uWWWB, 3, 1), (.uWWWWB, 4, 1), (.uWWWWW, 5, 0)]

/-- The exit words of uncompressed mode with tag `t` and the white pixels each writes (43_line_decoder_2d.md R220). -/
def exitWords (t : Bool) : List (Instr × Nat) :=
  [(.uX0 t, 0), (.uX1 t, 1), (.uX2 t, 2), (.uX3 t, 3), (.uX4 t, 4)]

end Sys2Proof.Machine
end

