-- ==== Sys2Proof/Certificates/Slice0/Obligations.lean ====
section
/-!
DEFINITION. The statements about the machine. Each docstring names the rules of spec/ it formalises. The words the
statements share (`Painted`, `Raised`, `LineEnds`, ...) stand in Sys2Proof/Safety.lean, said through reads of one byte
or one pixel and through explicit next states, not through the operations the meanings call.
-/
open Sys2Proof Sys2Proof.Machine

/-! ## Encoding -/

/-- In every code space, the word of every instruction the space admits, whatever bits follow it, decodes to that
instruction with its operands (30_encoding.md R90 to R97). Eight zeros of a mode space are no word of their own where
the bits after them complete an EOL, which is looked for first (43_line_decoder_2d.md R204): that one case is ruled
out. -/
def Obligations.DecodeInvertsEncode : Prop :=
  ∀ (sp : Space) (i : Instr) (rest : List Bool), sp.admits i = true →
    (i = .modeInvalid false → eolWord.isPrefixOf (padded (encode 0 i ++ rest)) = false) →
    decode sp (encode (codeWidth sp) i ++ rest) = .word i

/-- What a space decodes is an instruction it admits, and its word is what the bits (zeros after their end) begin
with: no bit of a word is dropped or invented. An LZW code needs its whole width of bits, and a table index from 258
on. -/
def Obligations.DecodedWordIsAdmitted : Prop :=
  ∀ (sp : Space) (bits : List Bool) (i : Instr),
    (∀ width next fresh, sp = .lzw width next fresh → 258 ≤ next ∧ width ≤ bits.length) →
    decode sp bits = .word i →
    sp.admits i = true ∧ (encode (codeWidth sp) i).isPrefixOf (padded bits) = true

/-- 41_run_length_codes.md R148, which the spec marks as its own inference ("derived: from rule R147"): a look-ahead
that begins with eight zeros and is not the EOL word matches no run word; no word of the space matches exactly for the
look-aheads that begin with one of four patterns. -/
def Obligations.RunSpaceInvalidPatterns : Prop :=
  ∀ (c : Color) (la : List Bool), la.length = 13 →
    (((bitsOf 8 0).isPrefixOf la = true → eolWord.isPrefixOf la = false →
        ∀ i ∈ runWords c, (encode 0 i).isPrefixOf la = false) ∧
      (decode (.run c) la = .reject .noRunWord ↔
        (bitsOf 9 1).isPrefixOf la = true ∨ (bitsOf 10 1).isPrefixOf la = true ∨
          (bitsOf 11 1).isPrefixOf la = true ∨ (bitsOf 12 0).isPrefixOf la = true))

/-- Words written out bit by bit from the tables of 41_run_length_codes.md R141 to R146, 43_line_decoder_2d.md R203
and R220, 44_image_decode.md R246, 45_fax_encoder.md R284 (the 24 bits of EOFB) and 46_lzw_decoder.md R300 decode to
their instructions. -/
def Obligations.SpecWordsDecode : Prop :=
  decode (.run .white) [false, false, true, true, false, true, false, true] = .word .wt0 ∧
  decode (.run .white) [true, true, false, true, true] = .word .wm64 ∧
  decode (.run .black) [true, true] = .word .bt2 ∧
  decode (.run .black) [false, false, false, false, false, false, true, true, false, false, true, false, true] =
    .word .bm1728 ∧
  decode (.run .black) [false, false, false, false, false, false, false, true, true, true, true, true] =
    .word .xm2560 ∧
  decode (.frame false) [false, false, false, false, false, false, false, false, false, false, false, true] =
    .word (.eol 0) ∧
  decode .tag [true] = .word .tag1 ∧
  decode (.mode false) [false, true, true] = .word .vr1 ∧
  decode (.mode true) [false, false, false, false, false, false, true, true, true, true] = .word .extU ∧
  decode .uncompressed [false, false, false, false, false, false, true, true] = .word (.uX0 true) ∧
  decode .endOfBlock
      [false, false, false, false, false, false, false, false, false, false, false, true,
       false, false, false, false, false, false, false, false, false, false, false, true] = .word .eofb ∧
  decode (.lzw 9 258 true) [true, false, false, false, false, false, false, false, false] = .word .lzwClr ∧
  decode (.lzw 9 258 false) [true, false, false, false, false, false, false, true, false] = .word (.lzwKwkwk 258)

/-! ## A step -/

/-- A step runs the decoded instruction, with nothing around it: in a code space, the word at the cursor; the
submitted job's instruction when idle; in the encoder, the word it chooses. That a step is one code word is the
model's choice (log 10, DESIGN CHOICE), and so is the step of an idle engine with no job submitted, which waits in
place (log 4, DESIGN CHOICE): the spec describes no such step. -/
def Obligations.StepRunsDecodedWord : Prop :=
  (∀ (s : State) (sp : Space) (i : Instr), s.space = some sp → ¬(s.phase = .lzw ∧ s.lzwStops = true) →
    decode sp s.window = .word i → step s = exec i s) ∧
  (∀ (s : State) (c : JobConfig), s.phase = .idle → s.request = some c → step s = exec c.op.instr s) ∧
  (∀ s : State, s.phase = .idle → s.request = none → step s = .next s) ∧
  (∀ (s : State) (r : Row), s.phase = .encodeMode → s.inputRow = some r → step s = exec (s.encoderMode r) s) ∧
  (∀ (s : State) (left a1 a2 : Nat), s.phase = .encodeRun1 left a1 a2 →
    step s = exec (encoderRunWord s.color left) s) ∧
  (∀ (s : State) (left a2 : Nat), s.phase = .encodeRun2 left a2 →
    step s = exec (encoderRunWord (flipColor s.color) left) s) ∧
  (∀ s : State, s.phase = .encodeEnd → step s = exec .eofb s)

/-- In a legal state every fetched instruction is well-formed: its operands are in the ranges of 43_line_decoder_2d.md
R217 and 46_lzw_decoder.md R306, R308 to R310. -/
def Obligations.FetchedWordsWellFormed : Prop :=
  ∀ (s : State) (i : Instr), s.Inv → s.fetch = .word i → WellFormed i

/-! ## Memory and pixels (20_memory.md) -/

/-- A written byte reads back, every other byte is as before, and the canonical form is kept (20_memory.md R61); and
memories in canonical form that read alike at every address are the same data. -/
def Obligations.MemoryReadAfterWrite : Prop :=
  (∀ (m : Memory) (a : Nat) (v : Byte), m.wf = true →
    (m.write a v).wf = true ∧ ∀ b, (m.write a v).read b = if b = a then v else m.read b) ∧
  (∀ m n : Memory, m.wf = true → n.wf = true → (∀ a, m.read a = n.read a) → m = n)

/-- `SetPix` changes the bit `7 - (x mod 8)` of byte `k*S + floor(x/8)` to the colour and no other bit; `Pix` reads
that bit (20_memory.md R63, R64). -/
def Obligations.SetPixelChangesOneBit : Prop :=
  ∀ (m : Memory) (stride k x : Nat) (c : Color), m.wf = true →
    (m.setPixel stride k x c).wf = true ∧
    (m.setPixel stride k x c).pixel stride k x = c ∧
    ∀ a j, j < 8 →
      ((m.setPixel stride k x c).read a).getLsbD j =
        if a = k * stride + x / 8 ∧ j = 7 - x % 8 then colorBit c else (m.read a).getLsbD j

/-- `Paint` on a row of the output buffer sets its pixels and no other (20_memory.md R65). -/
def Obligations.PaintSetsItsPixels : Prop :=
  ∀ (s : State) (x0 x1 : Nat) (c : Color), s.out.wf = true → x1 ≤ 8 * s.cfg.stride →
    (s.row + 1) * s.cfg.stride ≤ s.out.size →
    ∃ b, s.paint x0 x1 c = some { s with out := b } ∧ s.out.Painted s.cfg.stride s.row x0 x1 c b ∧
      (x1 ≤ x0 → b = s.out)

/-! ## The bit cursor (40_bit_cursor.md) -/

/-- 40_bit_cursor.md R122 and R126: a stream bit is 0 past the end of the input; else it is the bit of its byte, most
significant first, the byte flipped for fill order 2; that logical bit `j` is then bit `j` is a sentence R122 marks as
the spec's own inference ("derived: from rule R126"). -/
def Obligations.InBitReadsTheStream : Prop :=
  (∀ (s : State) (p : Nat), 8 * s.cfg.input.size ≤ p → s.inBit p = false) ∧
  (∀ (s : State) (p : Nat), p < 8 * s.cfg.input.size → s.fill ≠ 2 →
    s.inBit p = (s.cfg.input.cells.read (p / 8)).getLsbD (7 - p % 8)) ∧
  (∀ (s : State) (p : Nat), p < 8 * s.cfg.input.size → s.fill = 2 →
    s.inBit p = (s.cfg.input.cells.read (p / 8)).getLsbD (p % 8)) ∧
  (∀ (b : Byte) (i : Nat), i < 8 → b.reverse.getLsbD i = b.getLsbD (7 - i))

/-- 40_bit_cursor.md R123 to R125: `Peek(n)` is the next `n` bits; `Read(n)` returns their value, below `2^n`, and
moves the cursor `n` bits on and nothing else; `Rewind(n)` moves it back and nothing else, and undoes the read. -/
def Obligations.CursorPeekReadRewind : Prop :=
  ∀ (s : State) (n : Nat),
    (s.peek n).length = n ∧ (∀ j, j < n → (s.peek n)[j]? = some (s.inBit (s.cur + j))) ∧
    (s.readBits n).1 = bitsVal (s.peek n) ∧ (s.readBits n).1 < 2 ^ n ∧
    (s.readBits n).2 = { s with cur := s.cur + n } ∧
    (n ≤ s.cur → s.rewind n = some { s with cur := s.cur - n }) ∧
    (s.readBits n).2.rewind n = some s

/-! ## Changing elements and reference positions -/

/-- 10_state.md R40: `Trans(r)` is the strictly rising list of the positions whose pixel differs from the one before
(white before pixel 0); element `i` has the colour black when `i` is even and white when it is odd. -/
def Obligations.TransAreChangingElements : Prop :=
  ∀ r : Row,
    (∀ x, x ∈ trans r ↔ x < r.length ∧ r[x]? ≠ (if x = 0 then some .white else r[x - 1]?)) ∧
    (trans r).Pairwise (· < ·) ∧
    (∀ i (h : i < (trans r).length), r[(trans r)[i]]? = some (if i % 2 = 0 then .black else .white)) ∧
    (∀ x, x ∈ trans r → r[x]? = some (colorAt r x))

/-- 43_line_decoder_2d.md R201 and R202: `b1` is the first changing element of the reference line right of `a0` whose
colour is not the current one, or the width; `b2` is the first changing element right of `b1`, or the width; where
`a0` is left of the width, `a0 < b1 <= b2 <= w`, and `b1 < b2` unless `b2 = w`. -/
def Obligations.ReferencePositions : Prop :=
  ∀ s : State,
    ((s.b1 ∈ trans s.ref ∧ s.a0 < (s.b1 : Int) ∧ colorAt s.ref s.b1 ≠ s.color) ∨
      (s.b1 = s.cfg.width ∧ ∀ x ∈ trans s.ref, s.a0 < (x : Int) → colorAt s.ref x = s.color)) ∧
    (∀ x ∈ trans s.ref, s.a0 < (x : Int) → colorAt s.ref x ≠ s.color → s.b1 ≤ x) ∧
    ((s.b2 ∈ trans s.ref ∧ s.b1 < s.b2) ∨ (s.b2 = s.cfg.width ∧ ∀ x ∈ trans s.ref, x ≤ s.b1)) ∧
    (∀ x ∈ trans s.ref, s.b1 < x → s.b2 ≤ x) ∧
    (s.ref.length = s.cfg.width → s.a0 < (s.cfg.width : Int) →
      s.a0 < (s.b1 : Int) ∧ s.b1 ≤ s.b2 ∧ s.b2 ≤ s.cfg.width ∧ (s.b1 < s.b2 ∨ s.b2 = s.cfg.width))

/-! ## Jobs (47_job_dispatch.md, 70_reset_and_hazards.md) -/

/-- 70_reset_and_hazards.md R400: `JobStart(cfg)` latches the configuration, gives every working register its value
and allocates a zeroed output buffer of `S * height` bytes for every operation but the encoder. -/
def Obligations.JobStartValues : Prop :=
  ∀ (s : State) (c : JobConfig),
    let t := s.jobStart c
    t.cfg = c ∧ t.cur = 0 ∧ t.fill = c.fillOrder ∧ t.row = 0 ∧ t.a0 = -1 ∧ t.color = .white ∧ t.pos = 0 ∧
    t.failures = 0 ∧ t.ref = List.replicate c.width .white ∧ (t.refValid = true ↔ c.op = .decodeG4) ∧
    (∀ i, t.lzwTab.get i = if i < 256 then some [BitVec.ofNat 8 i] else none) ∧ t.lzwNext = 258 ∧ t.lzwWidth = 9 ∧
    t.lzwPrev = none ∧ t.lzwOut = 0 ∧ t.encBits = [] ∧
    (c.op ≠ .encodeG4 → t.out.size = c.stride * c.height ∧ ∀ a, t.out.cells.read a = 0)

/-- 60_exceptions.md R361 and 10_state.md R25: the checks of `Valid(cfg)`, and a job that fails one of them returns
`PreconditionViolation` with no buffer and has no other effect. R25 refuses `HORIZONTAL` with samples of other than 8
bits for both operations that read the predictor, the table of R361 for `DECODE_LZW` alone; that the check holds for
`COPY_NONE` too is the model's reading (log 9, DEDUCED). That a predictor may be a value outside the two names, and is
then refused, is the model's choice (log 8, DESIGN CHOICE). -/
def Obligations.ConfigurationIsChecked : Prop :=
  (∀ (l : Limits) (c : JobConfig),
    c.valid l = true ↔
      (1 ≤ c.width ∧ c.width ≤ l.maxWidth ∧ c.height ≤ l.maxHeight ∧ c.input.size ≤ l.maxInBytes) ∧
      (c.op = .decodeG31D ∨ c.op = .decodeG32D ∨ c.op = .decodeG4 → c.fillOrder = 1 ∨ c.fillOrder = 2) ∧
      (c.op = .decodeG32D → c.t4Options.getLsbD 0 = true) ∧
      (c.op = .decodeG31D → c.t4Options.getLsbD 0 = false) ∧
      (c.op = .decodeG4 → ∀ r, c.refIn = some r → r.length = c.width) ∧
      (c.op = .decodeLzw ∨ c.op = .copyNone →
        1 ≤ c.samplesPerPixel ∧ 1 ≤ c.bitsPerSample ∧ (c.predictor = .none ∨ c.predictor = .horizontal)) ∧
      (c.op = .decodeLzw ∨ c.op = .copyNone → c.predictor = .horizontal → c.bitsPerSample = 8) ∧
      (c.op = .encodeG4 → c.input.size = (c.width + 7) / 8 * c.height)) ∧
  (∀ (s : State) (c : JobConfig), s.phase = .idle → s.request = some c → c.valid s.limits = false →
    exec c.op.instr s =
      .next { s with
        request := none
        result := some
          { status := .preconditionViolation
            out := none
            failures := 0
            refOut := none
            enc := none } })

/-- 47_job_dispatch.md R340, R341: an accepted job starts its operation's procedure right after `JobStart`: the first
EOL of a Group 3 job, the first line of a Group 4 job against its initial reference line (44_image_decode.md R250,
R251), the LZW loop, the first row of an encode job or its end of block when the height is 0. -/
def Obligations.AcceptedJobsBegin : Prop :=
  ∀ (s : State) (c : JobConfig), s.phase = .idle → s.request = some c → c.valid s.limits = true →
    (c.op = .decodeG31D → 0 < c.height → exec .jobDecodeG31D s = .next { s.jobStart c with phase := .lineStart }) ∧
    (c.op = .decodeG32D → 0 < c.height → exec .jobDecodeG32D s = .next { s.jobStart c with phase := .lineStart }) ∧
    (c.op = .decodeG4 → 0 < c.height →
      exec .jobDecodeG4 s =
        .next { s.jobStart c with
          ref := c.refIn.getD (List.replicate c.width .white)
          phase := .modeWord }) ∧
    (c.op = .decodeLzw → exec .jobDecodeLzw s = .next { s.jobStart c with phase := .lzw }) ∧
    (c.op = .encodeG4 → 0 < c.height → exec .jobEncodeG4 s = .next { s.jobStart c with phase := .encodeMode }) ∧
    (c.op = .encodeG4 → c.height = 0 → exec .jobEncodeG4 s = .next { s.jobStart c with phase := .encodeEnd })

/-- 44_image_decode.md R256, which the spec marks as its own inference ("derived: from rules R240 and R250"): a fax
decode job of height 0 reads no bits and returns `OK`, an empty buffer, no failures and, for Group 4, its initial
reference line. -/
def Obligations.HeightZeroFaxJobs : Prop :=
  ∀ (s : State) (c : JobConfig), s.phase = .idle → s.request = some c → c.valid s.limits = true →
    isFaxDecode c.op = true → c.height = 0 →
    ∃ t, exec c.op.instr s = .next t ∧ t.cur = 0 ∧
      JobEnds { s with request := none } t
        { status := .ok
          out := some ⟨0, []⟩
          failures := 0
          refOut := if c.op = .decodeG4 then some (c.refIn.getD (List.replicate c.width .white)) else none
          enc := none }

/-- 47_job_dispatch.md R342: `CopyNone` copies `min(N, S*h)` bytes of the input to the same offsets, leaves the rest
of the buffer 0 and returns `OK`; the predictor is not applied. -/
def Obligations.CopyNoneCopies : Prop :=
  ∀ (s : State) (c : JobConfig), s.phase = .idle → s.request = some c → c.valid s.limits = true →
    c.op = .copyNone →
    ∃ t b, exec .jobCopyNone s = .next t ∧ b.size = c.stride * c.height ∧ b.wf = true ∧
      (∀ a, b.cells.read a = if a < min c.input.size (c.stride * c.height) then c.input.cells.read a else 0) ∧
      JobEnds { s with request := none } t
        { status := .ok
          out := some b
          failures := 0
          refOut := none
          enc := none }

/-! ## Group 3 framing and the raising of an error (44_image_decode.md, 60_exceptions.md) -/

/-- 44_image_decode.md R243: without `FILL_BITS` the next 12 bits must be the EOL word; with it, eleven or more zeros
and then a 1 inside the data; anything else is no EOL. The EOL is consumed, fill and all, and the line begins: the tag
bit of `DECODE_G3_2D`, or a 1D line at pixel 0 in white (R241, R242). -/
def Obligations.EolOpensTheLine : Prop :=
  (∀ s : State, s.phase = .lineStart → s.cfg.fillBits = false →
    (s.bitsFrom s.cur 12 = eolWord → s.fetch = .word (.eol 0)) ∧
    (s.bitsFrom s.cur 12 ≠ eolWord → s.fetch = .event .noEol)) ∧
  (∀ s : State, s.phase = .lineStart → s.cfg.fillBits = true →
    (∀ z, (∀ j, j < z → s.inBit (s.cur + j) = false) → s.inBit (s.cur + z) = true → s.cur + z < s.inBits →
      (11 ≤ z → s.fetch = .word (.eol (z - 11))) ∧ (z < 11 → s.fetch = .event .noEol)) ∧
    ((∀ p, s.cur ≤ p → p < s.inBits → s.inBit p = false) → s.fetch = .event .noEol)) ∧
  (∀ (s : State) (fill : Nat), s.phase = .lineStart → (fill = 0 ∨ s.cfg.fillBits = true) →
    (s.cfg.op = .decodeG32D →
      exec (.eol fill) s =
        .next { s with
          cur := s.cur + fill + 12
          phase := .tagBit }) ∧
    (s.cfg.op ≠ .decodeG32D →
      exec (.eol fill) s =
        .next { s with
          cur := s.cur + fill + 12
          a0 := -1
          color := .white
          pos := 0
          phase := .run .line1D 0 0 }))

/-- 44_image_decode.md R242: the bit after an EOL of `DECODE_G3_2D` selects a 1D line (1) or a 2D line (0); a 2D line
without a valid reference line raises `MissingReferenceLine` at the tag bit (R247). -/
def Obligations.TagBitSelectsTheCoding : Prop :=
  ∀ s : State, s.phase = .tagBit →
    s.fetch = .word (if s.inBit s.cur = true then .tag1 else .tag0) ∧
    exec .tag1 s =
      .next { s with
        cur := s.cur + 1
        a0 := -1
        color := .white
        pos := 0
        phase := .run .line1D 0 0 } ∧
    (s.refValid = true →
      exec .tag0 s =
        .next { s with
          cur := s.cur + 1
          a0 := -1
          color := .white
          pos := 0
          phase := .modeWord }) ∧
    (s.refValid = false → s.Inv → ∃ t, exec .tag0 s = .next t ∧ Raised s .missingReferenceLine t)

/-- 44_image_decode.md R240, R244, R254: where the EOL of a row is missing, a strict job ends `MalformedCode` with no
buffer; a tolerant job falls back with every row failed at row 0, and at a later row skips and counts the row and
searches the next EOL from where it was expected. -/
def Obligations.MissingEolPolicy : Prop :=
  ∀ s : State, s.Inv → s.phase = .lineStart → s.fetch = .event .noEol →
    ∃ t, step s = .next t ∧
      (s.cfg.tolerant = false →
        JobEnds s t
          { status := .malformedCode
            out := none
            failures := 0
            refOut := none
            enc := none }) ∧
      (s.cfg.tolerant = true → s.row = 0 →
        JobEnds s t
          { status := .fallbackRequested
            out := some s.out
            failures := s.cfg.height
            refOut := none
            enc := none }) ∧
      (s.cfg.tolerant = true → s.row ≠ 0 →
        Resumes
          { s with
            failures := s.failures + 1
            refValid := false } s.cur t)

/-- 44_image_decode.md R245: `SearchEOL(p)` finds the first EOL word at or after bit `p` that lies inside the data,
and fails exactly where there is none. -/
def Obligations.SearchFindsTheFirstEol : Prop :=
  ∀ (s : State) (p : Nat),
    (∀ q, s.searchEol p = some q ↔ FirstEol s p q) ∧ (s.searchEol p = none ↔ ∀ q, ¬FirstEol s p q)

/-- 60_exceptions.md R364 to R368, 44_image_decode.md R255: raising one of the four fax errors gives a next state, the
one the job's policy says. -/
def Obligations.RaiseFollowsThePolicy : Prop :=
  ∀ (s : State) (e : FaxError), s.out.wf = true → (s.row + 1) * s.cfg.stride ≤ s.out.size →
    ∃ t, s.raise e = .next t ∧ Raised s e.status t

/-- 41_run_length_codes.md R151, 43_line_decoder_2d.md R204: an EOL word where a run word or a mode word is expected
is read as the EOL and raises `PrematureEOL`. -/
def Obligations.EolInsideALineRaises : Prop :=
  ∀ s : State, s.Inv → ((∃ site x total, s.phase = .run site x total) ∨ s.phase = .modeWord) →
    (s.bitsFrom s.cur 12 = eolWord → s.fetch = .word (.eol 0)) ∧
    ∃ t, exec (.eol 0) s = .next t ∧ Raised s .prematureEOL t

/-- 41_run_length_codes.md R152, R153: a look-ahead that begins no word of the run's colour and no EOL raises
`MalformedCode`; so does every run word past the end of the input (R153, the spec's own inference). -/
def Obligations.NoRunWordRaises : Prop :=
  ∀ (s : State) (site : RunSite) (x total : Nat), s.Inv → s.phase = .run site x total →
    ((eolWord.isPrefixOf (s.peek 13) = false ∧
        ∀ i ∈ runWords (s.runColor site), (encode 0 i).isPrefixOf (s.peek 13) = false) ∨
      s.inBits ≤ s.cur) →
    ∃ t, step s = .next t ∧ Raised s .malformedCode t

/-! ## Run words (42_line_decoder_1d.md) -/

/-- A makeup word (`WM64`..`WM1728`, `BM64`..`BM1728`, and `XM1792`..`XM2560` in a run of either colour) that fits is
consumed, its pixels are painted in the run's colour, and the run goes on; no flag changes (42_line_decoder_1d.md
R172, R175, R177, R178). -/
def Obligations.MakeupWordsContinueTheRun : Prop :=
  ∀ (s : State) (i : Instr) (e : RunEntry) (site : RunSite) (x total : Nat), s.Inv → s.phase = .run site x total →
    i.runEntry = some e → e.terminating = false → runSpaceHas e.space (s.runColor site) = true →
    x + total + e.run ≤ s.cfg.width →
    ∃ b, s.out.Painted s.cfg.stride s.row (x + total) (x + total + e.run) (s.runColor site) b ∧
      exec i s =
        .next { s with
          cur := s.cur + (encode 0 i).length
          out := b
          phase := .run site x (total + e.run) }

/-- A terminating word (`WT0`..`WT63`, `BT0`..`BT63`) that fits is consumed, its pixels are painted in the run's
colour, and the run ends: a 1D line flips the colour, or ends at the width; the first run of a horizontal mode is
followed by the second; the second sets `a0` (42_line_decoder_1d.md R171, R172, R174, R176, R180;
43_line_decoder_2d.md R207). -/
def Obligations.TerminatingWordsEndTheRun : Prop :=
  ∀ (s : State) (i : Instr) (e : RunEntry) (site : RunSite) (x total : Nat), s.Inv → s.phase = .run site x total →
    i.runEntry = some e → e.terminating = true → runSpaceHas e.space (s.runColor site) = true →
    x + total + e.run ≤ s.cfg.width →
    ∃ b t, s.out.Painted s.cfg.stride s.row (x + total) (x + total + e.run) (s.runColor site) b ∧
      exec i s = .next t ∧
      RunDone
        { s with
          cur := s.cur + (encode 0 i).length
          out := b } site x (total + e.run) t

/-- 42_line_decoder_1d.md R172: a run word that would take the position past the width raises `OverrunError` at its
first bit, before anything is painted. -/
def Obligations.RunWordsOverrun : Prop :=
  ∀ (s : State) (i : Instr) (e : RunEntry) (site : RunSite) (x total : Nat), s.Inv → s.phase = .run site x total →
    i.runEntry = some e → runSpaceHas e.space (s.runColor site) = true → s.cfg.width < x + total + e.run →
    ∃ t, exec i s = .next t ∧ Raised s .overrunError t

/-! ## Mode words (43_line_decoder_2d.md) -/

/-- 43_line_decoder_2d.md R206: `P` paints from `max(a0, 0)` to `b2` in the current colour, which it keeps, and sets
`a0` to `b2`; where `b2` is the width the line ends. -/
def Obligations.PassMode : Prop :=
  ∀ s : State, s.Inv → s.phase = .modeWord →
    ∃ b t, s.out.Painted s.cfg.stride s.row s.a0.toNat s.b2 s.color b ∧ exec .p s = .next t ∧
      ModeDone
        { s with
          cur := s.cur + 4
          out := b
          a0 := (s.b2 : Int) } t

/-- 43_line_decoder_2d.md R207: `H` is consumed and the first of its two runs begins at `max(a0, 0)` in the current
colour; nothing else changes. -/
def Obligations.HorizontalModeBegins : Prop :=
  ∀ s : State, s.phase = .modeWord →
    exec .h s =
      .next { s with
        cur := s.cur + 3
        phase := .run .horizontal1 s.a0.toNat 0 }

/-- 43_line_decoder_2d.md R208 to R215: a vertical mode of offset `d` paints from `max(a0, 0)` to `a1 = b1 + d`, sets
`a0` to `a1` and flips the colour; it raises `OverrunError` where `a1` does not lie right of `a0` and within the
width, which never happens to `V0`. -/
def Obligations.VerticalModes : Prop :=
  ∀ (s : State) (i : Instr) (d : Int), s.Inv → s.phase = .modeWord → (i, d) ∈ verticalModes →
    (s.a0 < (s.b1 : Int) + d ∧ (s.b1 : Int) + d ≤ (s.cfg.width : Int) →
      ∃ b t, s.out.Painted s.cfg.stride s.row s.a0.toNat ((s.b1 : Int) + d).toNat s.color b ∧ exec i s = .next t ∧
        ModeDone
          { s with
            cur := s.cur + (encode 0 i).length
            out := b
            a0 := (s.b1 : Int) + d
            color := flipColor s.color } t) ∧
    (¬(s.a0 < (s.b1 : Int) + d ∧ (s.b1 : Int) + d ≤ (s.cfg.width : Int)) →
      i ≠ .v0 ∧ ∃ t, exec i s = .next t ∧ Raised s .overrunError t)

/-- 43_line_decoder_2d.md R217 and R219: an extension word with a reserved selector in a Group 4 line, and an
extension word with any selector in a Group 3 line, raise `MalformedCode`; so does a pattern that begins no mode word
(R218, which the spec marks as its own inference, "derived: from rule R203 and R122"). -/
def Obligations.InvalidModeWordsRaise : Prop :=
  ∀ s : State, s.Inv → s.phase = .modeWord →
    (∀ sel : BitVec 3, sel ≠ 7#3 → s.cfg.op = .decodeG4 →
      ∃ t, exec (.extRes sel) s = .next t ∧ Raised s .malformedCode t) ∧
    (∀ sel : BitVec 3, s.cfg.op ≠ .decodeG4 → ∃ t, exec (.extG3 sel) s = .next t ∧ Raised s .malformedCode t) ∧
    (∀ x : Bool, ∃ t, exec (.modeInvalid x) s = .next t ∧ Raised s .malformedCode t)

/-- 43_line_decoder_2d.md R216: `EXT.U` in a Group 4 line is consumed and uncompressed mode begins at pixel `max(a0,
0)`. -/
def Obligations.ExtensionEntersUncompressedMode : Prop :=
  ∀ s : State, s.phase = .modeWord → s.cfg.op = .decodeG4 →
    exec .extU s =
      .next { s with
        cur := s.cur + 10
        pos := s.a0.toNat
        phase := .uncompressed }

/-- 43_line_decoder_2d.md R221, and R222 to R227, which the spec marks as its own inferences ("derived: from rules
R220, R221"): an image word writes its white pixels and then its black one from `pos` on and moves `pos` past them; it
raises `OverrunError`, with nothing painted, where they would pass the width. -/
def Obligations.UncompressedImageWords : Prop :=
  ∀ (s : State) (i : Instr) (z n : Nat), s.Inv → s.phase = .uncompressed → (i, z, n) ∈ imageWords →
    (s.pos + z + n ≤ s.cfg.width →
      ∃ b d, s.out.Painted s.cfg.stride s.row s.pos (s.pos + z) .white b ∧
        b.Painted s.cfg.stride s.row (s.pos + z) (s.pos + z + n) .black d ∧
        exec i s =
          .next { s with
            cur := s.cur + (encode 0 i).length
            out := d
            pos := s.pos + z + n }) ∧
    (s.cfg.width < s.pos + z + n → ∃ t, exec i s = .next t ∧ Raised s .overrunError t)

/-- 43_line_decoder_2d.md R228 to R232: an exit word writes its white pixels from `pos` on, sets the colour from its
tag and `a0` to `pos`, and goes back to 2D coding, or ends the line at the width; it raises `OverrunError` where the
pixels would pass the width, which never happens to `U.X0`. -/
def Obligations.UncompressedExitWords : Prop :=
  ∀ (s : State) (i : Instr) (n : Nat) (tag : Bool), s.Inv → s.phase = .uncompressed → (i, n) ∈ exitWords tag →
    (s.pos + n ≤ s.cfg.width →
      ∃ b t, s.out.Painted s.cfg.stride s.row s.pos (s.pos + n) .white b ∧ exec i s = .next t ∧
        ModeDone
          { s with
            cur := s.cur + (encode 0 i).length
            out := b
            pos := s.pos + n
            color := if tag = true then .black else .white
            a0 := ((s.pos + n : Nat) : Int) } t) ∧
    (s.cfg.width < s.pos + n → i ≠ .uX0 tag ∧ ∃ t, exec i s = .next t ∧ Raised s .overrunError t)

/-- 43_line_decoder_2d.md R233: eleven zeros in uncompressed mode raise `MalformedCode` at the first of them; so does
every word past the end of the input. -/
def Obligations.UncompressedElevenZeros : Prop :=
  ∀ s : State, s.Inv → s.phase = .uncompressed →
    ((∀ j, j < 11 → s.inBit (s.cur + j) = false) → s.fetch = .word .uInvalid) ∧
    (s.inBits ≤ s.cur → s.fetch = .word .uInvalid) ∧
    ∃ t, exec .uInvalid s = .next t ∧ Raised s .malformedCode t

/-! ## LZW codes (46_lzw_decoder.md) -/

/-- 46_lzw_decoder.md R303 to R305, R313, R314: `END`, the end of the data and a full output leave the loop; the job
ends `OK` with the bytes written, every byte from `lzw_out` on 0, and the predictor reversed over the whole buffer if
it is asked for. -/
def Obligations.LzwLoopEnds : Prop :=
  ∀ s : State, s.Inv → s.phase = .lzw →
    (∃ t, exec .lzwEnd s = .next t ∧ LzwEnds s t) ∧
    (s.out.size ≤ s.lzwOut ∨ s.inBits < s.cur + s.lzwWidth → ∃ t, step s = .next t ∧ LzwEnds s t)

/-- 46_lzw_decoder.md R307: `CLR`, at any width, sets the table back to 258 entries, the width to 9 and the previous
code to none. -/
def Obligations.LzwClearResetsTheTable : Prop :=
  ∀ s : State, s.phase = .lzw →
    exec .lzwClr s =
      .next { s with
        cur := s.cur + s.lzwWidth
        lzwTab := []
        lzwNext := 258
        lzwWidth := 9
        lzwPrev := none }

/-- 46_lzw_decoder.md R306: the first data code after a reset outputs its one byte, adds no entry and becomes the
previous code. -/
def Obligations.LzwFirstDataCode : Prop :=
  ∀ (s : State) (c : Nat), s.Inv → s.phase = .lzw → s.lzwPrev = none → c ≤ 255 →
    ∃ b, s.out.Stored s.lzwOut ([BitVec.ofNat 8 c].take (s.out.size - s.lzwOut)) b ∧
      exec (.lzwFirst c) s =
        .next { s with
          cur := s.cur + s.lzwWidth
          out := b
          lzwOut := s.lzwOut + min 1 (s.out.size - s.lzwOut)
          lzwPrev := some c }

/-- 46_lzw_decoder.md R308: a code that names an entry outputs its string, cut at the end of the buffer (R313), and
adds the previous string with the first byte of this one (R311, R312). -/
def Obligations.LzwEntryCode : Prop :=
  ∀ (s : State) (code prev : Nat), s.Inv → s.phase = .lzw → s.lzwPrev = some prev → code < s.lzwNext →
    code ≠ 256 → code ≠ 257 →
    ∃ f w v b t, s.lzwTab.get code = some (f :: w) ∧ s.lzwTab.get prev = some v ∧
      s.out.Stored s.lzwOut ((f :: w).take (s.out.size - s.lzwOut)) b ∧
      exec (.lzwEntry code) s = .next t ∧
      EntryAdded
        { s with
          cur := s.cur + s.lzwWidth
          out := b
          lzwOut := s.lzwOut + min (w.length + 1) (s.out.size - s.lzwOut) } code (v ++ [f]) t

/-- 46_lzw_decoder.md R309: the code equal to the next index outputs the previous string with its own first byte, and
that string is the entry added. -/
def Obligations.LzwKwkwkCode : Prop :=
  ∀ (s : State) (prev : Nat), s.Inv → s.phase = .lzw → s.lzwPrev = some prev →
    ∃ f v b t, s.lzwTab.get prev = some (f :: v) ∧
      s.out.Stored s.lzwOut ((f :: v ++ [f]).take (s.out.size - s.lzwOut)) b ∧
      exec (.lzwKwkwk s.lzwNext) s = .next t ∧
      EntryAdded
        { s with
          cur := s.cur + s.lzwWidth
          out := b
          lzwOut := s.lzwOut + min (v.length + 2) (s.out.size - s.lzwOut) } s.lzwNext (f :: v ++ [f]) t

/-- 46_lzw_decoder.md R310, 60_exceptions.md R369: a code beyond the table, or 258 and above right after a reset, ends
the job `InvalidLZWSequence` with no buffer, in strict and tolerant mode alike. -/
def Obligations.LzwInvalidCode : Prop :=
  ∀ (s : State) (code : Nat), s.phase = .lzw → 258 ≤ code → (s.lzwPrev = none ∨ s.lzwNext < code) →
    ∃ t, exec (.lzwInvalid code) s = .next t ∧
      JobEnds s t
        { status := .invalidLZWSequence
          out := none
          failures := 0
          refOut := none
          enc := none }

/-- An entry stored in the string table reads back, and every other index reads as before (10_state.md R43). -/
def Obligations.LzwTableReadAfterSet : Prop :=
  ∀ (t : LzwTable) (i : Nat) (w : List Byte),
    (t.set i w).get i = some w ∧ ∀ j, j ≠ i → (t.set i w).get j = t.get j

/-- 46_lzw_decoder.md R320: `Unpredict` adds to every byte of a row, from the first pixel on, the byte already
reconstructed `samplesPerPixel` places earlier, modulo 256, row by row. -/
def Obligations.UnpredictReversesTheRows : Prop :=
  ∀ s : State, s.out.wf = true → s.cfg.op = .decodeLzw → s.cfg.bitsPerSample = 8 → 1 ≤ s.cfg.samplesPerPixel →
    s.out.size = s.cfg.stride * s.cfg.height →
    ∃ b, s.unpredict = some { s with out := b } ∧ s.out.Unpredicted s.cfg b

/-- 46_lzw_decoder.md R322, which the spec marks as its own inference ("derived: from rule R320"): `Unpredict` applied
to the horizontal differences of a buffer gives that buffer back. -/
def Obligations.UnpredictInvertsDifferencing : Prop :=
  ∀ (s : State) (v : Buffer), s.out.wf = true → v.wf = true → s.cfg.op = .decodeLzw → s.cfg.bitsPerSample = 8 →
    1 ≤ s.cfg.samplesPerPixel → s.out.size = s.cfg.stride * s.cfg.height → v.size = s.out.size →
    (∀ j i, j < s.cfg.height → i < s.cfg.stride →
      s.out.cells.read (j * s.cfg.stride + i) =
        if i < s.cfg.samplesPerPixel then v.cells.read (j * s.cfg.stride + i)
        else v.cells.read (j * s.cfg.stride + i) - v.cells.read (j * s.cfg.stride + i - s.cfg.samplesPerPixel)) →
    s.unpredict = some { s with out := v }

/-! ## The encoder (45_fax_encoder.md) -/

/-- 45_fax_encoder.md R273 to R279: with `a1` the first changing element of the current row right of `a0`, the encoder
emits `P` when `b2 < a1`, else the vertical mode of `a1 - b1` when that is within 3, else `H` and its two runs; the
step fetches that word and its meaning moves `a0` and the colour as the rule says. -/
def Obligations.EncoderEmitsModeWords : Prop :=
  ∀ s : State, s.Inv → s.phase = .encodeMode →
    (s.b2 < s.encoderA1 s.sourceRow →
      s.fetch = .word .p ∧
      exec .p s =
        .next { s with
          encBits := s.encBits ++ [false, false, false, true]
          a0 := (s.b2 : Int) }) ∧
    (∀ i d, ¬s.b2 < s.encoderA1 s.sourceRow → (i, d) ∈ verticalModes →
      (s.encoderA1 s.sourceRow : Int) - (s.b1 : Int) = d →
      s.fetch = .word i ∧
      ∃ t, exec i s = .next t ∧
        EncoderModeDone
          { s with
            encBits := s.encBits ++ encode 0 i
            a0 := (s.encoderA1 s.sourceRow : Int)
            color := flipColor s.color } t) ∧
    (¬s.b2 < s.encoderA1 s.sourceRow →
      ((s.encoderA1 s.sourceRow : Int) - (s.b1 : Int) < -3 ∨ 3 < (s.encoderA1 s.sourceRow : Int) - (s.b1 : Int)) →
      s.fetch = .word .h ∧
      exec .h s =
        .next { s with
          encBits := s.encBits ++ [false, false, true]
          phase := .encodeRun1 (s.encoderA1 s.sourceRow - s.a0.toNat) (s.encoderA1 s.sourceRow)
            (s.encoderA2 s.sourceRow) })

/-- 45_fax_encoder.md R278, R281: in a run of `left` pixels still to emit, the step fetches the run word chosen for
them and its meaning appends the word: a makeup word leaves the rest of the run; the terminating word of the first run
is followed by the second run, of `a2 - a1` pixels in the other colour; that of the second sets `a0` to `a2`. -/
def Obligations.EncoderEmitsRunWords : Prop :=
  ∀ (s : State) (i : Instr) (e : RunEntry), s.Inv → i.runEntry = some e →
    (∀ left a1 a2, s.phase = .encodeRun1 left a1 a2 → i = encoderRunWord s.color left →
      s.fetch = .word i ∧
      (e.terminating = false →
        exec i s =
          .next { s with
            encBits := s.encBits ++ encode 0 i
            phase := .encodeRun1 (left - e.run) a1 a2 }) ∧
      (e.terminating = true →
        exec i s =
          .next { s with
            encBits := s.encBits ++ encode 0 i
            phase := .encodeRun2 (a2 - a1) a2 })) ∧
    (∀ left a2, s.phase = .encodeRun2 left a2 → i = encoderRunWord (flipColor s.color) left →
      s.fetch = .word i ∧
      (e.terminating = false →
        exec i s =
          .next { s with
            encBits := s.encBits ++ encode 0 i
            phase := .encodeRun2 (left - e.run) a2 }) ∧
      (e.terminating = true →
        ∃ t, exec i s = .next t ∧
          EncoderModeDone
            { s with
              encBits := s.encBits ++ encode 0 i
              a0 := (a2 : Int) } t))

/-- 45_fax_encoder.md R281, R282: for `n` pixels of a colour the encoder chooses `XM2560` from 2624 pixels on, else
from 64 on the makeup word of `64 * floor(n / 64)`, of the colour's own space up to 1728 and shared from 1792 on, else
the colour's terminating word of `n`. -/
def Obligations.RunDecomposition : Prop :=
  ∀ (c : Color) (n : Nat),
    ∃ e, (encoderRunWord c n).runEntry = some e ∧ runSpaceHas e.space c = true ∧
      (2624 ≤ n → encoderRunWord c n = .xm2560 ∧ e.run = 2560 ∧ e.terminating = false) ∧
      (64 ≤ n → n < 2624 →
        e.run = 64 * (n / 64) ∧ e.terminating = false ∧ (e.space = .shared ↔ 1792 ≤ e.run)) ∧
      (n < 64 → e.run = n ∧ e.terminating = true ∧ e.space ≠ .shared)

/-- 45_fax_encoder.md R284, R285: after the last row the encoder appends two EOL words and the job returns the stream
packed into `ceil(len / 8)` bytes, first bit most significant, zeros after the last bit. -/
def Obligations.EndOfBlockEndsEncoding : Prop :=
  ∀ s : State, s.phase = .encodeEnd →
    ∃ t bytes, exec .eofb s = .next t ∧
      Packed (s.encBits ++ eolWord ++ eolWord) bytes ∧
      JobEnds s t
        { status := .ok
          out := none
          failures := 0
          refOut := none
          enc := some bytes }

/-- 45_fax_encoder.md R286, which the spec marks as its own inference ("derived: from rules R272, R284, R285"): an
encode job of height 0 returns the bytes `00 10 01`. -/
def Obligations.HeightZeroEncoding : Prop :=
  ∀ (s : State) (c : JobConfig), s.phase = .idle → s.request = some c → c.valid s.limits = true →
    c.op = .encodeG4 → c.height = 0 →
    ∃ t : State, Host.Core.run Sys2Proof.core 2 s = .next t ∧
      JobEnds { s with request := none } t
        { status := .ok
          out := none
          failures := 0
          refOut := none
          enc := some [0x00#8, 0x10#8, 0x01#8] }

/-! ## The whole machine -/

/-- State.reset is a legal state, idle, with nothing submitted and nothing returned, its working registers at their
values at job start (10_state.md R20, R47); that the machine begins so is the model's choice (log 1). -/
def Obligations.ResetIsLegal : Prop :=
  State.reset.Inv ∧ State.reset.phase = .idle ∧ State.reset.request = none ∧ State.reset.result = none ∧
  State.reset.cur = 0 ∧ State.reset.row = 0 ∧ State.reset.a0 = -1 ∧ State.reset.color = .white ∧
  State.reset.pos = 0 ∧ State.reset.failures = 0 ∧ State.reset.lzwTab = [] ∧ State.reset.lzwNext = 258 ∧
  State.reset.lzwWidth = 9 ∧ State.reset.lzwPrev = none ∧ State.reset.lzwOut = 0 ∧ State.reset.encBits = []

/-- Every step from a legal state ends in a legal state: the buffers stay canonical, the string table stays as
10_state.md R43 says, every register stays in its range (10_state.md R20); and the part of the output buffer that no
word has reached stays zero: in a fax decode job the rows after `st.row`, and row `st.row` before its line begins, in
the LZW loop the bytes from `lzw_out` on (20_memory.md R66). What the invariant says of an idle engine's registers and
buffer is the model's choice (log 1, log 5). -/
def Obligations.LegalStatesStayLegal : Prop :=
  ∀ s t : State, s.Inv → step s = .next t → t.Inv ∧ t.restClear

/-- From every legal state a step gives a next state: no fault, no refusal, whatever the input is (60_exceptions.md
R364 to R372; 30_encoding.md R95). -/
def Obligations.EveryStepCompletes : Prop :=
  ∀ s : State, s.Inv → ∃ t, step s = .next t

/-- 10_state.md R29, 20_memory.md R75, 47_job_dispatch.md R346: while a job runs no step changes its configuration or
its fill order, and the result record changes only where the job ends. That no step changes the port then rests on the
model's choice of a port that holds one job (log 17, DESIGN CHOICE), and that none changes the limits on its choice to
hold them in a field of the state (log 2, DESIGN CHOICE). -/
def Obligations.RunningJobIsUndisturbed : Prop :=
  ∀ s t : State, s.phase ≠ .idle → step s = .next t →
    t.cfg = s.cfg ∧ t.fill = s.fill ∧ t.limits = s.limits ∧ t.request = s.request ∧
      (t.phase ≠ .idle → t.result = s.result)

/-- What the result record holds, by its status, where a job ends (47_job_dispatch.md R343): `OK` of a decode returns
the job's buffer, its last row as decoded or zero where it was given up, `st.failures`, and `st.ref` for Group 4; `OK`
of the encoder returns the packed stream; `FallbackRequested` returns the buffer with every row from the one given up
on zero and counts the rows failed so far and every row from that one on (60_exceptions.md R368); an error returns
neither. -/
def Obligations.ResultRecordShapes : Prop :=
  ∀ s t : State, s.Inv → (s.phase ≠ .idle ∨ s.request ≠ none) → step s = .next t → t.phase = .idle →
    ∃ r, t.result = some r ∧
      (r.status = .ok → t.cfg.op ≠ .encodeG4 →
        ∃ b, r.out = some b ∧ JobBuffer s t b ∧
          (isFaxDecode t.cfg.op = true → 0 < t.cfg.height → LastRowIs t b) ∧
          r.failures = t.failures ∧ r.enc = none ∧
          r.refOut = if t.cfg.op = .decodeG4 then some t.ref else none) ∧
      (r.status = .ok → t.cfg.op = .encodeG4 →
        r.out = none ∧ r.failures = 0 ∧ r.refOut = none ∧
          ∃ bytes, r.enc = some bytes ∧ Packed (s.encBits ++ eolWord ++ eolWord) bytes) ∧
      (r.status = .fallbackRequested →
        ∃ b, r.out = some b ∧ JobBuffer s t b ∧ (∀ a, s.row * s.cfg.stride ≤ a → b.cells.read a = 0) ∧
          r.failures = s.failures + (s.cfg.height - s.row) ∧ r.refOut = none ∧ r.enc = none) ∧
      (r.status ≠ .ok → r.status ≠ .fallbackRequested →
        r.out = none ∧ r.failures = 0 ∧ r.refOut = none ∧ r.enc = none)

/-- 60_exceptions.md R371, R365, R364: a tolerant fax job that has started ends `OK` or `FallbackRequested`, a strict
one never falls back, and no job counts more failures than it has rows. -/
def Obligations.FaxJobStatuses : Prop :=
  ∀ (s t : State) (r : JobResult), s.Inv → s.phase ≠ .idle → isFaxDecode s.cfg.op = true → step s = .next t →
    t.phase = .idle → t.result = some r →
    (s.cfg.tolerant = true → r.status = .ok ∨ r.status = .fallbackRequested) ∧
    (s.cfg.tolerant = false → r.status ≠ .fallbackRequested) ∧ r.failures ≤ s.cfg.height

/-- 20_memory.md R66: no fax decoder writes a padding bit: they stay 0 in the working buffer and in the buffer
returned. -/
def Obligations.PaddingIsNeverWritten : Prop :=
  ∀ s t : State, s.Inv → s.phase ≠ .idle → isFaxDecode s.cfg.op = true → s.paddingClear → step s = .next t →
    (t.phase ≠ .idle → t.paddingClear) ∧
    (t.phase = .idle → ∀ r b, t.result = some r → r.out = some b →
      ∀ k x, k < s.cfg.height → s.cfg.width ≤ x → x < 8 * s.cfg.stride → b.cells.pixel s.cfg.stride k x = .white)

/-- 10_state.md R21, which the spec marks as its own inference ("derived: from `40_bit_cursor.md` rule R122 and
`41_run_length_codes.md` rule R153"): in a running job the cursor never moves back, and a fax decoder's never stands
more than 13 bits past the end of the input. -/
def Obligations.CursorStaysNearTheData : Prop :=
  ∀ s t : State, s.Inv → s.phase ≠ .idle → step s = .next t → t.phase ≠ .idle →
    s.cur ≤ t.cur ∧ (isFaxDecode s.cfg.op = true → s.cursorNear → t.cursorNear)

/-- 60_exceptions.md R384, which the spec marks as its own inference: every job ends: from every legal idle state with
a job submitted, some number of steps leads, with no fault and no refusal, to an idle engine that has taken the job
and returned a result. -/
def Obligations.EveryJobEnds : Prop :=
  ∀ s : State, s.Inv → s.phase = .idle → s.request ≠ none →
    ∃ (n : Nat) (t : State), Host.Core.run Sys2Proof.core n s = .next t ∧
      t.phase = .idle ∧ t.request = none ∧ t.result ≠ none

/-- 45_fax_encoder.md R287, which the spec marks as its own inference ("derived: from rules R273-R285"): for every
input the encoder accepts, it returns a byte stream that `DECODE_G4` with the same width and height, fill order 1 and
no reference line decodes, with status `OK`, to a buffer equal to the input in every pixel of every row, its padding
bits zero. -/
def Obligations.EncodedImageDecodesBack : Prop :=
  ∀ (s : State) (c : JobConfig), s.Inv → s.phase = .idle → s.request = some c → c.op = .encodeG4 →
    c.valid s.limits = true →
    ∃ (n : Nat) (t : State) (bytes : List Byte),
      Host.Core.run Sys2Proof.core n s = .next t ∧
      JobEnds { s with request := none } t
        { status := .ok
          out := none
          failures := 0
          refOut := none
          enc := some bytes } ∧
      (bytes.length ≤ s.limits.maxInBytes →
        ∃ (m : Nat) (u : State) (b : Buffer),
          Host.Core.run Sys2Proof.core m
              (t.submit { c with
                op := .decodeG4
                fillOrder := 1
                refIn := none
                input := Buffer.ofBytes bytes }) = .next u ∧
          u.phase = .idle ∧
          (∃ r, u.result = some r ∧ r.status = .ok ∧ r.out = some b ∧ r.failures = 0) ∧
          b.size = c.stride * c.height ∧
          (∀ k x, k < c.height → x < c.width →
            b.cells.pixel c.stride k x = c.input.cells.pixel c.stride k x) ∧
          (∀ k x, k < c.height → c.width ≤ x → x < 8 * c.stride → b.cells.pixel c.stride k x = .white))
end

