-- ==== Sys2Proof/Laws/State.lean ====
section
/-!
SUPPORT. The fields of a state after each named update: one lemma per field, true by rfl.
-/
namespace Sys2Proof.Machine

/-! ### `State.flipped` -/

@[simp] theorem State.flipped_limits (s : State) : (s.flipped).limits = s.limits := rfl
@[simp] theorem State.flipped_request (s : State) : (s.flipped).request = s.request := rfl
@[simp] theorem State.flipped_result (s : State) : (s.flipped).result = s.result := rfl
@[simp] theorem State.flipped_cfg (s : State) : (s.flipped).cfg = s.cfg := rfl
@[simp] theorem State.flipped_phase (s : State) : (s.flipped).phase = s.phase := rfl
@[simp] theorem State.flipped_cur (s : State) : (s.flipped).cur = s.cur := rfl
@[simp] theorem State.flipped_fill (s : State) : (s.flipped).fill = s.fill := rfl
@[simp] theorem State.flipped_row (s : State) : (s.flipped).row = s.row := rfl
@[simp] theorem State.flipped_a0 (s : State) : (s.flipped).a0 = s.a0 := rfl
@[simp] theorem State.flipped_color (s : State) : (s.flipped).color = flipColor s.color := rfl
@[simp] theorem State.flipped_pos (s : State) : (s.flipped).pos = s.pos := rfl
@[simp] theorem State.flipped_ref (s : State) : (s.flipped).ref = s.ref := rfl
@[simp] theorem State.flipped_refValid (s : State) : (s.flipped).refValid = s.refValid := rfl
@[simp] theorem State.flipped_failures (s : State) : (s.flipped).failures = s.failures := rfl
@[simp] theorem State.flipped_lzwTab (s : State) : (s.flipped).lzwTab = s.lzwTab := rfl
@[simp] theorem State.flipped_lzwNext (s : State) : (s.flipped).lzwNext = s.lzwNext := rfl
@[simp] theorem State.flipped_lzwWidth (s : State) : (s.flipped).lzwWidth = s.lzwWidth := rfl
@[simp] theorem State.flipped_lzwPrev (s : State) : (s.flipped).lzwPrev = s.lzwPrev := rfl
@[simp] theorem State.flipped_lzwOut (s : State) : (s.flipped).lzwOut = s.lzwOut := rfl
@[simp] theorem State.flipped_encBits (s : State) : (s.flipped).encBits = s.encBits := rfl
@[simp] theorem State.flipped_out (s : State) : (s.flipped).out = s.out := rfl
@[simp] theorem State.flipped_freeCount (s : State) : (s.flipped).freeCount = s.freeCount := rfl

/-! ### `State.atLineStart` -/

@[simp] theorem State.atLineStart_limits (s : State) : (s.atLineStart).limits = s.limits := rfl
@[simp] theorem State.atLineStart_request (s : State) : (s.atLineStart).request = s.request := rfl
@[simp] theorem State.atLineStart_result (s : State) : (s.atLineStart).result = s.result := rfl
@[simp] theorem State.atLineStart_cfg (s : State) : (s.atLineStart).cfg = s.cfg := rfl
@[simp] theorem State.atLineStart_phase (s : State) : (s.atLineStart).phase = s.phase := rfl
@[simp] theorem State.atLineStart_cur (s : State) : (s.atLineStart).cur = s.cur := rfl
@[simp] theorem State.atLineStart_fill (s : State) : (s.atLineStart).fill = s.fill := rfl
@[simp] theorem State.atLineStart_row (s : State) : (s.atLineStart).row = s.row := rfl
@[simp] theorem State.atLineStart_a0 (s : State) : (s.atLineStart).a0 = -1 := rfl
@[simp] theorem State.atLineStart_color (s : State) : (s.atLineStart).color = .white := rfl
@[simp] theorem State.atLineStart_pos (s : State) : (s.atLineStart).pos = 0 := rfl
@[simp] theorem State.atLineStart_ref (s : State) : (s.atLineStart).ref = s.ref := rfl
@[simp] theorem State.atLineStart_refValid (s : State) : (s.atLineStart).refValid = s.refValid := rfl
@[simp] theorem State.atLineStart_failures (s : State) : (s.atLineStart).failures = s.failures := rfl
@[simp] theorem State.atLineStart_lzwTab (s : State) : (s.atLineStart).lzwTab = s.lzwTab := rfl
@[simp] theorem State.atLineStart_lzwNext (s : State) : (s.atLineStart).lzwNext = s.lzwNext := rfl
@[simp] theorem State.atLineStart_lzwWidth (s : State) : (s.atLineStart).lzwWidth = s.lzwWidth := rfl
@[simp] theorem State.atLineStart_lzwPrev (s : State) : (s.atLineStart).lzwPrev = s.lzwPrev := rfl
@[simp] theorem State.atLineStart_lzwOut (s : State) : (s.atLineStart).lzwOut = s.lzwOut := rfl
@[simp] theorem State.atLineStart_encBits (s : State) : (s.atLineStart).encBits = s.encBits := rfl
@[simp] theorem State.atLineStart_out (s : State) : (s.atLineStart).out = s.out := rfl
@[simp] theorem State.atLineStart_freeCount (s : State) : (s.atLineStart).freeCount = s.freeCount := rfl

/-! ### `State.refInvalidated` -/

@[simp] theorem State.refInvalidated_limits (s : State) : (s.refInvalidated).limits = s.limits := rfl
@[simp] theorem State.refInvalidated_request (s : State) : (s.refInvalidated).request = s.request := rfl
@[simp] theorem State.refInvalidated_result (s : State) : (s.refInvalidated).result = s.result := rfl
@[simp] theorem State.refInvalidated_cfg (s : State) : (s.refInvalidated).cfg = s.cfg := rfl
@[simp] theorem State.refInvalidated_phase (s : State) : (s.refInvalidated).phase = s.phase := rfl
@[simp] theorem State.refInvalidated_cur (s : State) : (s.refInvalidated).cur = s.cur := rfl
@[simp] theorem State.refInvalidated_fill (s : State) : (s.refInvalidated).fill = s.fill := rfl
@[simp] theorem State.refInvalidated_row (s : State) : (s.refInvalidated).row = s.row := rfl
@[simp] theorem State.refInvalidated_a0 (s : State) : (s.refInvalidated).a0 = s.a0 := rfl
@[simp] theorem State.refInvalidated_color (s : State) : (s.refInvalidated).color = s.color := rfl
@[simp] theorem State.refInvalidated_pos (s : State) : (s.refInvalidated).pos = s.pos := rfl
@[simp] theorem State.refInvalidated_ref (s : State) : (s.refInvalidated).ref = s.ref := rfl
@[simp] theorem State.refInvalidated_refValid (s : State) : (s.refInvalidated).refValid = false := rfl
@[simp] theorem State.refInvalidated_failures (s : State) : (s.refInvalidated).failures = s.failures := rfl
@[simp] theorem State.refInvalidated_lzwTab (s : State) : (s.refInvalidated).lzwTab = s.lzwTab := rfl
@[simp] theorem State.refInvalidated_lzwNext (s : State) : (s.refInvalidated).lzwNext = s.lzwNext := rfl
@[simp] theorem State.refInvalidated_lzwWidth (s : State) : (s.refInvalidated).lzwWidth = s.lzwWidth := rfl
@[simp] theorem State.refInvalidated_lzwPrev (s : State) : (s.refInvalidated).lzwPrev = s.lzwPrev := rfl
@[simp] theorem State.refInvalidated_lzwOut (s : State) : (s.refInvalidated).lzwOut = s.lzwOut := rfl
@[simp] theorem State.refInvalidated_encBits (s : State) : (s.refInvalidated).encBits = s.encBits := rfl
@[simp] theorem State.refInvalidated_out (s : State) : (s.refInvalidated).out = s.out := rfl
@[simp] theorem State.refInvalidated_freeCount (s : State) : (s.refInvalidated).freeCount = s.freeCount := rfl

/-! ### `State.withReference` -/

@[simp] theorem State.withReference_limits (s : State) (r : Row) : (s.withReference r).limits = s.limits := rfl
@[simp] theorem State.withReference_request (s : State) (r : Row) : (s.withReference r).request = s.request := rfl
@[simp] theorem State.withReference_result (s : State) (r : Row) : (s.withReference r).result = s.result := rfl
@[simp] theorem State.withReference_cfg (s : State) (r : Row) : (s.withReference r).cfg = s.cfg := rfl
@[simp] theorem State.withReference_phase (s : State) (r : Row) : (s.withReference r).phase = s.phase := rfl
@[simp] theorem State.withReference_cur (s : State) (r : Row) : (s.withReference r).cur = s.cur := rfl
@[simp] theorem State.withReference_fill (s : State) (r : Row) : (s.withReference r).fill = s.fill := rfl
@[simp] theorem State.withReference_row (s : State) (r : Row) : (s.withReference r).row = s.row := rfl
@[simp] theorem State.withReference_a0 (s : State) (r : Row) : (s.withReference r).a0 = s.a0 := rfl
@[simp] theorem State.withReference_color (s : State) (r : Row) : (s.withReference r).color = s.color := rfl
@[simp] theorem State.withReference_pos (s : State) (r : Row) : (s.withReference r).pos = s.pos := rfl
@[simp] theorem State.withReference_ref (s : State) (r : Row) : (s.withReference r).ref = r := rfl
@[simp] theorem State.withReference_refValid (s : State) (r : Row) : (s.withReference r).refValid = true := rfl
@[simp] theorem State.withReference_failures (s : State) (r : Row) : (s.withReference r).failures = s.failures := rfl
@[simp] theorem State.withReference_lzwTab (s : State) (r : Row) : (s.withReference r).lzwTab = s.lzwTab := rfl
@[simp] theorem State.withReference_lzwNext (s : State) (r : Row) : (s.withReference r).lzwNext = s.lzwNext := rfl
@[simp] theorem State.withReference_lzwWidth (s : State) (r : Row) : (s.withReference r).lzwWidth = s.lzwWidth := rfl
@[simp] theorem State.withReference_lzwPrev (s : State) (r : Row) : (s.withReference r).lzwPrev = s.lzwPrev := rfl
@[simp] theorem State.withReference_lzwOut (s : State) (r : Row) : (s.withReference r).lzwOut = s.lzwOut := rfl
@[simp] theorem State.withReference_encBits (s : State) (r : Row) : (s.withReference r).encBits = s.encBits := rfl
@[simp] theorem State.withReference_out (s : State) (r : Row) : (s.withReference r).out = s.out := rfl
@[simp] theorem State.withReference_freeCount (s : State) (r : Row) : (s.withReference r).freeCount = s.freeCount := rfl

/-! ### `State.initTable` -/

@[simp] theorem State.initTable_limits (s : State) : (s.initTable).limits = s.limits := rfl
@[simp] theorem State.initTable_request (s : State) : (s.initTable).request = s.request := rfl
@[simp] theorem State.initTable_result (s : State) : (s.initTable).result = s.result := rfl
@[simp] theorem State.initTable_cfg (s : State) : (s.initTable).cfg = s.cfg := rfl
@[simp] theorem State.initTable_phase (s : State) : (s.initTable).phase = s.phase := rfl
@[simp] theorem State.initTable_cur (s : State) : (s.initTable).cur = s.cur := rfl
@[simp] theorem State.initTable_fill (s : State) : (s.initTable).fill = s.fill := rfl
@[simp] theorem State.initTable_row (s : State) : (s.initTable).row = s.row := rfl
@[simp] theorem State.initTable_a0 (s : State) : (s.initTable).a0 = s.a0 := rfl
@[simp] theorem State.initTable_color (s : State) : (s.initTable).color = s.color := rfl
@[simp] theorem State.initTable_pos (s : State) : (s.initTable).pos = s.pos := rfl
@[simp] theorem State.initTable_ref (s : State) : (s.initTable).ref = s.ref := rfl
@[simp] theorem State.initTable_refValid (s : State) : (s.initTable).refValid = s.refValid := rfl
@[simp] theorem State.initTable_failures (s : State) : (s.initTable).failures = s.failures := rfl
@[simp] theorem State.initTable_lzwTab (s : State) : (s.initTable).lzwTab = [] := rfl
@[simp] theorem State.initTable_lzwNext (s : State) : (s.initTable).lzwNext = 258 := rfl
@[simp] theorem State.initTable_lzwWidth (s : State) : (s.initTable).lzwWidth = 9 := rfl
@[simp] theorem State.initTable_lzwPrev (s : State) : (s.initTable).lzwPrev = none := rfl
@[simp] theorem State.initTable_lzwOut (s : State) : (s.initTable).lzwOut = s.lzwOut := rfl
@[simp] theorem State.initTable_encBits (s : State) : (s.initTable).encBits = s.encBits := rfl
@[simp] theorem State.initTable_out (s : State) : (s.initTable).out = s.out := rfl
@[simp] theorem State.initTable_freeCount (s : State) : (s.initTable).freeCount = s.freeCount := rfl

/-! ### `State.advanced` -/

@[simp] theorem State.advanced_limits (s : State) (n : Nat) : (s.advanced n).limits = s.limits := rfl
@[simp] theorem State.advanced_request (s : State) (n : Nat) : (s.advanced n).request = s.request := rfl
@[simp] theorem State.advanced_result (s : State) (n : Nat) : (s.advanced n).result = s.result := rfl
@[simp] theorem State.advanced_cfg (s : State) (n : Nat) : (s.advanced n).cfg = s.cfg := rfl
@[simp] theorem State.advanced_phase (s : State) (n : Nat) : (s.advanced n).phase = s.phase := rfl
@[simp] theorem State.advanced_cur (s : State) (n : Nat) : (s.advanced n).cur = s.cur + n := rfl
@[simp] theorem State.advanced_fill (s : State) (n : Nat) : (s.advanced n).fill = s.fill := rfl
@[simp] theorem State.advanced_row (s : State) (n : Nat) : (s.advanced n).row = s.row := rfl
@[simp] theorem State.advanced_a0 (s : State) (n : Nat) : (s.advanced n).a0 = s.a0 := rfl
@[simp] theorem State.advanced_color (s : State) (n : Nat) : (s.advanced n).color = s.color := rfl
@[simp] theorem State.advanced_pos (s : State) (n : Nat) : (s.advanced n).pos = s.pos := rfl
@[simp] theorem State.advanced_ref (s : State) (n : Nat) : (s.advanced n).ref = s.ref := rfl
@[simp] theorem State.advanced_refValid (s : State) (n : Nat) : (s.advanced n).refValid = s.refValid := rfl
@[simp] theorem State.advanced_failures (s : State) (n : Nat) : (s.advanced n).failures = s.failures := rfl
@[simp] theorem State.advanced_lzwTab (s : State) (n : Nat) : (s.advanced n).lzwTab = s.lzwTab := rfl
@[simp] theorem State.advanced_lzwNext (s : State) (n : Nat) : (s.advanced n).lzwNext = s.lzwNext := rfl
@[simp] theorem State.advanced_lzwWidth (s : State) (n : Nat) : (s.advanced n).lzwWidth = s.lzwWidth := rfl
@[simp] theorem State.advanced_lzwPrev (s : State) (n : Nat) : (s.advanced n).lzwPrev = s.lzwPrev := rfl
@[simp] theorem State.advanced_lzwOut (s : State) (n : Nat) : (s.advanced n).lzwOut = s.lzwOut := rfl
@[simp] theorem State.advanced_encBits (s : State) (n : Nat) : (s.advanced n).encBits = s.encBits := rfl
@[simp] theorem State.advanced_out (s : State) (n : Nat) : (s.advanced n).out = s.out := rfl
@[simp] theorem State.advanced_freeCount (s : State) (n : Nat) : (s.advanced n).freeCount = s.freeCount := rfl

/-! ### `State.cursorOpen` -/

@[simp] theorem State.cursorOpen_limits (s : State) : (s.cursorOpen).limits = s.limits := rfl
@[simp] theorem State.cursorOpen_request (s : State) : (s.cursorOpen).request = s.request := rfl
@[simp] theorem State.cursorOpen_result (s : State) : (s.cursorOpen).result = s.result := rfl
@[simp] theorem State.cursorOpen_cfg (s : State) : (s.cursorOpen).cfg = s.cfg := rfl
@[simp] theorem State.cursorOpen_phase (s : State) : (s.cursorOpen).phase = s.phase := rfl
@[simp] theorem State.cursorOpen_cur (s : State) : (s.cursorOpen).cur = Config.cursorAfterRaise s.freeCount := rfl
@[simp] theorem State.cursorOpen_fill (s : State) : (s.cursorOpen).fill = s.fill := rfl
@[simp] theorem State.cursorOpen_row (s : State) : (s.cursorOpen).row = s.row := rfl
@[simp] theorem State.cursorOpen_a0 (s : State) : (s.cursorOpen).a0 = s.a0 := rfl
@[simp] theorem State.cursorOpen_color (s : State) : (s.cursorOpen).color = s.color := rfl
@[simp] theorem State.cursorOpen_pos (s : State) : (s.cursorOpen).pos = s.pos := rfl
@[simp] theorem State.cursorOpen_ref (s : State) : (s.cursorOpen).ref = s.ref := rfl
@[simp] theorem State.cursorOpen_refValid (s : State) : (s.cursorOpen).refValid = s.refValid := rfl
@[simp] theorem State.cursorOpen_failures (s : State) : (s.cursorOpen).failures = s.failures := rfl
@[simp] theorem State.cursorOpen_lzwTab (s : State) : (s.cursorOpen).lzwTab = s.lzwTab := rfl
@[simp] theorem State.cursorOpen_lzwNext (s : State) : (s.cursorOpen).lzwNext = s.lzwNext := rfl
@[simp] theorem State.cursorOpen_lzwWidth (s : State) : (s.cursorOpen).lzwWidth = s.lzwWidth := rfl
@[simp] theorem State.cursorOpen_lzwPrev (s : State) : (s.cursorOpen).lzwPrev = s.lzwPrev := rfl
@[simp] theorem State.cursorOpen_lzwOut (s : State) : (s.cursorOpen).lzwOut = s.lzwOut := rfl
@[simp] theorem State.cursorOpen_encBits (s : State) : (s.cursorOpen).encBits = s.encBits := rfl
@[simp] theorem State.cursorOpen_out (s : State) : (s.cursorOpen).out = s.out := rfl
@[simp] theorem State.cursorOpen_freeCount (s : State) : (s.cursorOpen).freeCount = s.freeCount + 1 := rfl

/-! ### `State.finish` -/

@[simp] theorem State.finish_limits (s : State) (r : JobResult) : (s.finish r).limits = s.limits := rfl
@[simp] theorem State.finish_request (s : State) (r : JobResult) : (s.finish r).request = s.request := rfl
@[simp] theorem State.finish_result (s : State) (r : JobResult) : (s.finish r).result = some r := rfl
@[simp] theorem State.finish_cfg (s : State) (r : JobResult) : (s.finish r).cfg = s.cfg := rfl
@[simp] theorem State.finish_phase (s : State) (r : JobResult) : (s.finish r).phase = .idle := rfl
@[simp] theorem State.finish_cur (s : State) (r : JobResult) : (s.finish r).cur = s.cur := rfl
@[simp] theorem State.finish_fill (s : State) (r : JobResult) : (s.finish r).fill = s.fill := rfl
@[simp] theorem State.finish_row (s : State) (r : JobResult) : (s.finish r).row = s.row := rfl
@[simp] theorem State.finish_a0 (s : State) (r : JobResult) : (s.finish r).a0 = s.a0 := rfl
@[simp] theorem State.finish_color (s : State) (r : JobResult) : (s.finish r).color = s.color := rfl
@[simp] theorem State.finish_pos (s : State) (r : JobResult) : (s.finish r).pos = s.pos := rfl
@[simp] theorem State.finish_ref (s : State) (r : JobResult) : (s.finish r).ref = s.ref := rfl
@[simp] theorem State.finish_refValid (s : State) (r : JobResult) : (s.finish r).refValid = s.refValid := rfl
@[simp] theorem State.finish_failures (s : State) (r : JobResult) : (s.finish r).failures = s.failures := rfl
@[simp] theorem State.finish_lzwTab (s : State) (r : JobResult) : (s.finish r).lzwTab = s.lzwTab := rfl
@[simp] theorem State.finish_lzwNext (s : State) (r : JobResult) : (s.finish r).lzwNext = s.lzwNext := rfl
@[simp] theorem State.finish_lzwWidth (s : State) (r : JobResult) : (s.finish r).lzwWidth = s.lzwWidth := rfl
@[simp] theorem State.finish_lzwPrev (s : State) (r : JobResult) : (s.finish r).lzwPrev = s.lzwPrev := rfl
@[simp] theorem State.finish_lzwOut (s : State) (r : JobResult) : (s.finish r).lzwOut = s.lzwOut := rfl
@[simp] theorem State.finish_encBits (s : State) (r : JobResult) : (s.finish r).encBits = s.encBits := rfl
@[simp] theorem State.finish_out (s : State) (r : JobResult) : (s.finish r).out = Buffer.zeros 0 := rfl
@[simp] theorem State.finish_freeCount (s : State) (r : JobResult) : (s.finish r).freeCount = s.freeCount := rfl

/-! ### `State.start1D` -/

@[simp] theorem State.start1D_limits (s : State) : (s.start1D).limits = s.limits := rfl
@[simp] theorem State.start1D_request (s : State) : (s.start1D).request = s.request := rfl
@[simp] theorem State.start1D_result (s : State) : (s.start1D).result = s.result := rfl
@[simp] theorem State.start1D_cfg (s : State) : (s.start1D).cfg = s.cfg := rfl
@[simp] theorem State.start1D_phase (s : State) : (s.start1D).phase = .run .line1D 0 0 := rfl
@[simp] theorem State.start1D_cur (s : State) : (s.start1D).cur = s.cur := rfl
@[simp] theorem State.start1D_fill (s : State) : (s.start1D).fill = s.fill := rfl
@[simp] theorem State.start1D_row (s : State) : (s.start1D).row = s.row := rfl
@[simp] theorem State.start1D_a0 (s : State) : (s.start1D).a0 = -1 := rfl
@[simp] theorem State.start1D_color (s : State) : (s.start1D).color = .white := rfl
@[simp] theorem State.start1D_pos (s : State) : (s.start1D).pos = 0 := rfl
@[simp] theorem State.start1D_ref (s : State) : (s.start1D).ref = s.ref := rfl
@[simp] theorem State.start1D_refValid (s : State) : (s.start1D).refValid = s.refValid := rfl
@[simp] theorem State.start1D_failures (s : State) : (s.start1D).failures = s.failures := rfl
@[simp] theorem State.start1D_lzwTab (s : State) : (s.start1D).lzwTab = s.lzwTab := rfl
@[simp] theorem State.start1D_lzwNext (s : State) : (s.start1D).lzwNext = s.lzwNext := rfl
@[simp] theorem State.start1D_lzwWidth (s : State) : (s.start1D).lzwWidth = s.lzwWidth := rfl
@[simp] theorem State.start1D_lzwPrev (s : State) : (s.start1D).lzwPrev = s.lzwPrev := rfl
@[simp] theorem State.start1D_lzwOut (s : State) : (s.start1D).lzwOut = s.lzwOut := rfl
@[simp] theorem State.start1D_encBits (s : State) : (s.start1D).encBits = s.encBits := rfl
@[simp] theorem State.start1D_out (s : State) : (s.start1D).out = s.out := rfl
@[simp] theorem State.start1D_freeCount (s : State) : (s.start1D).freeCount = s.freeCount := rfl

/-! ### `State.start2D` -/

@[simp] theorem State.start2D_limits (s : State) : (s.start2D).limits = s.limits := rfl
@[simp] theorem State.start2D_request (s : State) : (s.start2D).request = s.request := rfl
@[simp] theorem State.start2D_result (s : State) : (s.start2D).result = s.result := rfl
@[simp] theorem State.start2D_cfg (s : State) : (s.start2D).cfg = s.cfg := rfl
@[simp] theorem State.start2D_phase (s : State) : (s.start2D).phase = .modeWord := rfl
@[simp] theorem State.start2D_cur (s : State) : (s.start2D).cur = s.cur := rfl
@[simp] theorem State.start2D_fill (s : State) : (s.start2D).fill = s.fill := rfl
@[simp] theorem State.start2D_row (s : State) : (s.start2D).row = s.row := rfl
@[simp] theorem State.start2D_a0 (s : State) : (s.start2D).a0 = -1 := rfl
@[simp] theorem State.start2D_color (s : State) : (s.start2D).color = .white := rfl
@[simp] theorem State.start2D_pos (s : State) : (s.start2D).pos = 0 := rfl
@[simp] theorem State.start2D_ref (s : State) : (s.start2D).ref = s.ref := rfl
@[simp] theorem State.start2D_refValid (s : State) : (s.start2D).refValid = s.refValid := rfl
@[simp] theorem State.start2D_failures (s : State) : (s.start2D).failures = s.failures := rfl
@[simp] theorem State.start2D_lzwTab (s : State) : (s.start2D).lzwTab = s.lzwTab := rfl
@[simp] theorem State.start2D_lzwNext (s : State) : (s.start2D).lzwNext = s.lzwNext := rfl
@[simp] theorem State.start2D_lzwWidth (s : State) : (s.start2D).lzwWidth = s.lzwWidth := rfl
@[simp] theorem State.start2D_lzwPrev (s : State) : (s.start2D).lzwPrev = s.lzwPrev := rfl
@[simp] theorem State.start2D_lzwOut (s : State) : (s.start2D).lzwOut = s.lzwOut := rfl
@[simp] theorem State.start2D_encBits (s : State) : (s.start2D).encBits = s.encBits := rfl
@[simp] theorem State.start2D_out (s : State) : (s.start2D).out = s.out := rfl
@[simp] theorem State.start2D_freeCount (s : State) : (s.start2D).freeCount = s.freeCount := rfl

/-! ### `State.emit` -/

@[simp] theorem State.emit_limits (s : State) (w : List Bool) : (s.emit w).limits = s.limits := rfl
@[simp] theorem State.emit_request (s : State) (w : List Bool) : (s.emit w).request = s.request := rfl
@[simp] theorem State.emit_result (s : State) (w : List Bool) : (s.emit w).result = s.result := rfl
@[simp] theorem State.emit_cfg (s : State) (w : List Bool) : (s.emit w).cfg = s.cfg := rfl
@[simp] theorem State.emit_phase (s : State) (w : List Bool) : (s.emit w).phase = s.phase := rfl
@[simp] theorem State.emit_cur (s : State) (w : List Bool) : (s.emit w).cur = s.cur := rfl
@[simp] theorem State.emit_fill (s : State) (w : List Bool) : (s.emit w).fill = s.fill := rfl
@[simp] theorem State.emit_row (s : State) (w : List Bool) : (s.emit w).row = s.row := rfl
@[simp] theorem State.emit_a0 (s : State) (w : List Bool) : (s.emit w).a0 = s.a0 := rfl
@[simp] theorem State.emit_color (s : State) (w : List Bool) : (s.emit w).color = s.color := rfl
@[simp] theorem State.emit_pos (s : State) (w : List Bool) : (s.emit w).pos = s.pos := rfl
@[simp] theorem State.emit_ref (s : State) (w : List Bool) : (s.emit w).ref = s.ref := rfl
@[simp] theorem State.emit_refValid (s : State) (w : List Bool) : (s.emit w).refValid = s.refValid := rfl
@[simp] theorem State.emit_failures (s : State) (w : List Bool) : (s.emit w).failures = s.failures := rfl
@[simp] theorem State.emit_lzwTab (s : State) (w : List Bool) : (s.emit w).lzwTab = s.lzwTab := rfl
@[simp] theorem State.emit_lzwNext (s : State) (w : List Bool) : (s.emit w).lzwNext = s.lzwNext := rfl
@[simp] theorem State.emit_lzwWidth (s : State) (w : List Bool) : (s.emit w).lzwWidth = s.lzwWidth := rfl
@[simp] theorem State.emit_lzwPrev (s : State) (w : List Bool) : (s.emit w).lzwPrev = s.lzwPrev := rfl
@[simp] theorem State.emit_lzwOut (s : State) (w : List Bool) : (s.emit w).lzwOut = s.lzwOut := rfl
@[simp] theorem State.emit_encBits (s : State) (w : List Bool) : (s.emit w).encBits = s.encBits ++ w := rfl
@[simp] theorem State.emit_out (s : State) (w : List Bool) : (s.emit w).out = s.out := rfl
@[simp] theorem State.emit_freeCount (s : State) (w : List Bool) : (s.emit w).freeCount = s.freeCount := rfl

/-! ### `State.startEncodeRow` -/

@[simp] theorem State.startEncodeRow_limits (s : State) : (s.startEncodeRow).limits = s.limits := rfl
@[simp] theorem State.startEncodeRow_request (s : State) : (s.startEncodeRow).request = s.request := rfl
@[simp] theorem State.startEncodeRow_result (s : State) : (s.startEncodeRow).result = s.result := rfl
@[simp] theorem State.startEncodeRow_cfg (s : State) : (s.startEncodeRow).cfg = s.cfg := rfl
@[simp] theorem State.startEncodeRow_phase (s : State) : (s.startEncodeRow).phase = .encodeMode := rfl
@[simp] theorem State.startEncodeRow_cur (s : State) : (s.startEncodeRow).cur = s.cur := rfl
@[simp] theorem State.startEncodeRow_fill (s : State) : (s.startEncodeRow).fill = s.fill := rfl
@[simp] theorem State.startEncodeRow_row (s : State) : (s.startEncodeRow).row = s.row := rfl
@[simp] theorem State.startEncodeRow_a0 (s : State) : (s.startEncodeRow).a0 = -1 := rfl
@[simp] theorem State.startEncodeRow_color (s : State) : (s.startEncodeRow).color = .white := rfl
@[simp] theorem State.startEncodeRow_pos (s : State) : (s.startEncodeRow).pos = 0 := rfl
@[simp] theorem State.startEncodeRow_ref (s : State) : (s.startEncodeRow).ref = s.ref := rfl
@[simp] theorem State.startEncodeRow_refValid (s : State) : (s.startEncodeRow).refValid = s.refValid := rfl
@[simp] theorem State.startEncodeRow_failures (s : State) : (s.startEncodeRow).failures = s.failures := rfl
@[simp] theorem State.startEncodeRow_lzwTab (s : State) : (s.startEncodeRow).lzwTab = s.lzwTab := rfl
@[simp] theorem State.startEncodeRow_lzwNext (s : State) : (s.startEncodeRow).lzwNext = s.lzwNext := rfl
@[simp] theorem State.startEncodeRow_lzwWidth (s : State) : (s.startEncodeRow).lzwWidth = s.lzwWidth := rfl
@[simp] theorem State.startEncodeRow_lzwPrev (s : State) : (s.startEncodeRow).lzwPrev = s.lzwPrev := rfl
@[simp] theorem State.startEncodeRow_lzwOut (s : State) : (s.startEncodeRow).lzwOut = s.lzwOut := rfl
@[simp] theorem State.startEncodeRow_encBits (s : State) : (s.startEncodeRow).encBits = s.encBits := rfl
@[simp] theorem State.startEncodeRow_out (s : State) : (s.startEncodeRow).out = s.out := rfl
@[simp] theorem State.startEncodeRow_freeCount (s : State) : (s.startEncodeRow).freeCount = s.freeCount := rfl

/-! ### `State.submit` -/

@[simp] theorem State.submit_limits (s : State) (c : JobConfig) : (s.submit c).limits = s.limits := rfl
@[simp] theorem State.submit_request (s : State) (c : JobConfig) :
    (s.submit c).request = if s.portOpen then some c else s.request := rfl
@[simp] theorem State.submit_result (s : State) (c : JobConfig) : (s.submit c).result = s.result := rfl
@[simp] theorem State.submit_cfg (s : State) (c : JobConfig) : (s.submit c).cfg = s.cfg := rfl
@[simp] theorem State.submit_phase (s : State) (c : JobConfig) : (s.submit c).phase = s.phase := rfl
@[simp] theorem State.submit_cur (s : State) (c : JobConfig) : (s.submit c).cur = s.cur := rfl
@[simp] theorem State.submit_fill (s : State) (c : JobConfig) : (s.submit c).fill = s.fill := rfl
@[simp] theorem State.submit_row (s : State) (c : JobConfig) : (s.submit c).row = s.row := rfl
@[simp] theorem State.submit_a0 (s : State) (c : JobConfig) : (s.submit c).a0 = s.a0 := rfl
@[simp] theorem State.submit_color (s : State) (c : JobConfig) : (s.submit c).color = s.color := rfl
@[simp] theorem State.submit_pos (s : State) (c : JobConfig) : (s.submit c).pos = s.pos := rfl
@[simp] theorem State.submit_ref (s : State) (c : JobConfig) : (s.submit c).ref = s.ref := rfl
@[simp] theorem State.submit_refValid (s : State) (c : JobConfig) : (s.submit c).refValid = s.refValid := rfl
@[simp] theorem State.submit_failures (s : State) (c : JobConfig) : (s.submit c).failures = s.failures := rfl
@[simp] theorem State.submit_lzwTab (s : State) (c : JobConfig) : (s.submit c).lzwTab = s.lzwTab := rfl
@[simp] theorem State.submit_lzwNext (s : State) (c : JobConfig) : (s.submit c).lzwNext = s.lzwNext := rfl
@[simp] theorem State.submit_lzwWidth (s : State) (c : JobConfig) : (s.submit c).lzwWidth = s.lzwWidth := rfl
@[simp] theorem State.submit_lzwPrev (s : State) (c : JobConfig) : (s.submit c).lzwPrev = s.lzwPrev := rfl
@[simp] theorem State.submit_lzwOut (s : State) (c : JobConfig) : (s.submit c).lzwOut = s.lzwOut := rfl
@[simp] theorem State.submit_encBits (s : State) (c : JobConfig) : (s.submit c).encBits = s.encBits := rfl
@[simp] theorem State.submit_out (s : State) (c : JobConfig) : (s.submit c).out = s.out := rfl
@[simp] theorem State.submit_freeCount (s : State) (c : JobConfig) : (s.submit c).freeCount = s.freeCount := rfl

/-- The port is open exactly where no job runs and none is pending. -/
theorem State.portOpen_iff {s : State} : s.portOpen = true ↔ s.phase = .idle ∧ s.request = none := by
  simp [State.portOpen]

/-- An open port takes the submission and nothing else changes. -/
theorem State.submit_of_open {s : State} (h : s.portOpen = true) (c : JobConfig) :
    s.submit c = { s with request := some c } := by
  simp [State.submit, h]

/-- A closed port refuses the submission: a job submitted or running is never displaced. -/
theorem State.submit_of_closed {s : State} (h : s.portOpen = false) (c : JobConfig) : s.submit c = s := by
  simp [State.submit, h]

end Sys2Proof.Machine
end

