-- ==== Sys2Proof/Laws/Memory.lean ====
section
/-!
SUPPORT. Every memory operation keeps the canonical form, and stays inside the buffer it is asked to write.
-/
namespace Sys2Proof.Machine

/-- Every listed address satisfies `p`. -/
def Memory.allAddr (p : Nat → Bool) (m : Memory) : Bool := m.all (fun c => p c.1)

theorem Memory.wf_cons {a : Nat} {v : Byte} {m : Memory} :
    Memory.wf ((a, v) :: m) = true ↔ v ≠ 0 ∧ (∀ c ∈ m, a < c.1) ∧ m.wf = true := by
  simp [Memory.wf, and_assoc]

/-- The addresses listed after a write are those before it and the one written. -/
theorem Memory.mem_write {m : Memory} {a : Nat} {v : Byte} {c : Host.Cell} (h : c ∈ m.write a v) :
    c ∈ m ∨ c.1 = a := by
  induction m with
  | nil =>
    simp only [Memory.write] at h
    split at h <;> simp_all
  | cons d m ih =>
    obtain ⟨b, w⟩ := d
    simp only [Memory.write] at h
    split at h
    · split at h <;> simp_all
      rcases h with h | h | h <;> simp_all
    · split at h
      · split at h <;> simp_all
        rcases h with h | h <;> simp_all
      · rcases List.mem_cons.1 h with h | h
        · exact .inl (by simp [h])
        · rcases ih h with h | h
          · exact .inl (by simp [h])
          · exact .inr h

/-- A write keeps the canonical form. -/
theorem Memory.write_wf {m : Memory} (h : m.wf = true) (a : Nat) (v : Byte) : (m.write a v).wf = true := by
  induction m with
  | nil =>
    simp only [Memory.write]
    split
    · rfl
    · rename_i hv
      exact Memory.wf_cons.2 ⟨hv, by simp, rfl⟩
  | cons d m ih =>
    obtain ⟨b, w⟩ := d
    obtain ⟨hw, hb, hm⟩ := Memory.wf_cons.1 h
    simp only [Memory.write]
    split
    · rename_i hab
      split
      · exact h
      · rename_i hv
        refine Memory.wf_cons.2 ⟨hv, ?_, h⟩
        intro c hc
        rcases List.mem_cons.1 hc with rfl | hc
        · exact hab
        · exact hab.trans (hb c hc)
    · split
      · rename_i hab
        split
        · exact hm
        · rename_i hv
          exact Memory.wf_cons.2 ⟨hv, by simpa [hab] using hb, hm⟩
      · rename_i h1 h2
        refine Memory.wf_cons.2 ⟨hw, ?_, ih hm⟩
        intro c hc
        rcases Memory.mem_write hc with hc | hc
        · exact hb c hc
        · omega

/-- What a chain of writes keeps: the canonical form, and a bound on the listed addresses that the writes obey. -/
def Memory.Good (n : Nat) (m : Memory) : Prop := m.wf = true ∧ ∀ c ∈ m, c.1 < n

theorem Memory.good_write {n : Nat} {m : Memory} (h : Memory.Good n m) {a : Nat} (ha : a < n) (v : Byte) :
    Memory.Good n (m.write a v) :=
  ⟨Memory.write_wf h.1 a v, fun c hc => by
    rcases Memory.mem_write hc with hc | hc
    · exact h.2 c hc
    · omega⟩

theorem Memory.good_nil (n : Nat) : Memory.Good n [] := ⟨rfl, by simp⟩

/-- A buffer is well-formed exactly when its cells are canonical and lie inside it. -/
theorem Buffer.wf_iff {b : Buffer} : b.wf = true ↔ Memory.Good b.size b.cells := by
  simp [Buffer.wf, Memory.Good]

theorem Buffer.zeros_wf (n : Nat) : (Buffer.zeros n).wf = true := rfl

theorem Memory.store_good {n : Nat} (l : List Byte) {m : Memory} (h : Memory.Good n m) {a : Nat}
    (ha : a + l.length ≤ n) : Memory.Good n (m.store a l) := by
  induction l generalizing m a with
  | nil => exact h
  | cons v l ih =>
    simp only [List.length_cons] at ha
    exact ih (Memory.good_write h (by omega) v) (by omega)

theorem Memory.setPixel_good {n : Nat} {m : Memory} (h : Memory.Good n m) {stride k x : Nat}
    (ha : pixelAddr stride k x < n) (c : Color) : Memory.Good n (m.setPixel stride k x c) :=
  Memory.good_write h ha _

/-- The byte of a pixel does not move left as the pixel moves right. -/
theorem pixelAddr_mono (stride k : Nat) {x y : Nat} (h : x ≤ y) : pixelAddr stride k x ≤ pixelAddr stride k y := by
  simp only [pixelAddr]
  have := Nat.div_le_div_right (c := 8) h
  omega

theorem Memory.paint_good {n : Nat} (stride k : Nat) (c : Color) (count : Nat) {x : Nat} {m : Memory}
    (h : Memory.Good n m) (ha : count = 0 ∨ pixelAddr stride k (x + count - 1) < n) :
    Memory.Good n (m.paint stride k c count x) := by
  induction count generalizing m x with
  | zero => exact h
  | succ count ih =>
    have ha' : pixelAddr stride k (x + count) < n := by simpa using ha
    refine ih (Memory.setPixel_good h ?_ c) ?_
    · exact lt_of_le_of_lt (pixelAddr_mono stride k (Nat.le_add_right x count)) ha'
    · rcases Nat.eq_zero_or_pos count with h0 | h0
      · exact .inl h0
      · exact .inr (by rwa [show x + 1 + count - 1 = x + count by omega])

theorem Memory.clear_good {n : Nat} (count : Nat) {a : Nat} {m : Memory} (h : Memory.Good n m)
    (ha : a + count ≤ n) : Memory.Good n (m.clear a count) := by
  induction count generalizing m a with
  | zero => exact h
  | succ count ih => exact ih (Memory.good_write h (by omega) 0) (by omega)

theorem Memory.unpredictRow_good {n : Nat} (spp count : Nat) {a : Nat} {m : Memory} (h : Memory.Good n m)
    (ha : count = 0 ∨ a + count ≤ n) : Memory.Good n (m.unpredictRow spp count a) := by
  induction count generalizing m a with
  | zero => exact h
  | succ count ih => exact ih (Memory.good_write h (by omega) _) (by omega)

theorem Memory.unpredictRows_good {n : Nat} (stride spp samples : Nat) (hs : samples ≤ stride) (count : Nat) {j : Nat}
    {m : Memory} (h : Memory.Good n m) (ha : count = 0 ∨ (j + count) * stride ≤ n) :
    Memory.Good n (m.unpredictRows stride spp samples count j) := by
  induction count generalizing m j with
  | zero => exact h
  | succ count ih =>
    have hj : (j + (count + 1)) * stride ≤ n := ha.resolve_left (by omega)
    have hrow : (j + 1) * stride ≤ n := (Nat.mul_le_mul_right stride (by omega)).trans hj
    refine ih (Memory.unpredictRow_good spp _ h ?_) (.inr ?_)
    · rw [Nat.add_mul] at hrow
      omega
    · rwa [show j + 1 + count = j + (count + 1) by omega]

theorem Buffer.ofBytes_wf (l : List Byte) : (Buffer.ofBytes l).wf = true :=
  Buffer.wf_iff.2 (Memory.store_good l (Memory.good_nil _) (by simp [Buffer.ofBytes]))

end Sys2Proof.Machine
end

