-- ==== Sys2Proof/Laws/Ops.lean ====
section
/-!
SUPPORT. For each shared operation, what it can answer: if it answers a next state, then one of the listed cases holds.
-/
namespace Sys2Proof.Machine

/-- A painted state differs from the state before in the cells of the output buffer alone. -/
theorem State.paint_some {s t : State} {x0 x1 : Nat} {c : Color} (h : s.paint x0 x1 c = some t) :
    (x1 ≤ x0 ∧ t = s) ∨
    (x0 < x1 ∧ pixelAddr s.cfg.stride s.row (x1 - 1) < s.out.size ∧
      t = { s with out := { s.out with cells := s.out.cells.paint s.cfg.stride s.row c (x1 - x0) x0 } }) := by
  unfold State.paint at h
  split at h
  · exact .inl ⟨‹_›, by simpa using h.symm⟩
  · split at h
    · exact .inr ⟨by omega, ‹_›, by simpa using h.symm⟩
    · cases h

/-- Painting succeeds where the last pixel lies in the buffer. -/
theorem State.paint_eq {s : State} {x0 x1 : Nat} {c : Color}
    (h : x0 < x1 → pixelAddr s.cfg.stride s.row (x1 - 1) < s.out.size) :
    s.paint x0 x1 c =
      some { s with out := { s.out with cells := s.out.cells.paint s.cfg.stride s.row c (x1 - x0) x0 } } := by
  unfold State.paint
  split
  · rw [Nat.sub_eq_zero_of_le ‹_›]
    rfl
  · rw [if_pos (h (by omega))]

/-- Painting keeps the output buffer well-formed. -/
theorem State.paint_wf {s t : State} {x0 x1 : Nat} {c : Color} (h : s.paint x0 x1 c = some t)
    (hw : s.out.wf = true) : t.out.wf = true := by
  rcases State.paint_some h with ⟨-, rfl⟩ | ⟨hx, ha, rfl⟩
  · exact hw
  · refine Buffer.wf_iff.2 (Memory.paint_good _ _ _ _ (Buffer.wf_iff.1 hw) (.inr ?_))
    rwa [show x0 + (x1 - x0) - 1 = x1 - 1 by omega]

theorem State.clearRow_some {s t : State} (h : s.clearRow = some t) :
    (s.row + 1) * s.cfg.stride ≤ s.out.size ∧
      t = { s with out := { s.out with cells := s.out.cells.clear (s.row * s.cfg.stride) s.cfg.stride } } := by
  unfold State.clearRow at h
  split at h
  · exact ⟨‹_›, by simpa using h.symm⟩
  · cases h

/-- Clearing a row keeps the output buffer well-formed. -/
theorem State.clearRow_wf {s t : State} (h : s.clearRow = some t) (hw : s.out.wf = true) : t.out.wf = true := by
  obtain ⟨hr, rfl⟩ := State.clearRow_some h
  exact Buffer.wf_iff.2 (Memory.clear_good _ (Buffer.wf_iff.1 hw) (by rwa [← Nat.succ_mul]))

theorem Buffer.row_some {b : Buffer} {stride w k : Nat} {r : Row} (h : b.row stride w k = some r) :
    (k + 1) * stride ≤ b.size ∧ r = (List.range w).map (b.cells.pixel stride k) := by
  unfold Buffer.row at h
  split at h
  · exact ⟨‹_›, by simpa using h.symm⟩
  · cases h

/-- A row read from a buffer has `w` pixels. -/
theorem Buffer.row_length {b : Buffer} {stride w k : Nat} {r : Row} (h : b.row stride w k = some r) :
    r.length = w := by
  obtain ⟨-, rfl⟩ := Buffer.row_some h
  simp

/-- After a decoded row: the next Group 4 row, the next Group 3 row, or the end of the job. -/
theorem State.afterRow_cases (s : State) :
    (s.row + 1 < s.cfg.height ∧ s.cfg.op = .decodeG4 ∧ s.afterRow = State.start2D { s with row := s.row + 1 }) ∨
    (s.row + 1 < s.cfg.height ∧ s.cfg.op ≠ .decodeG4 ∧
      s.afterRow = { s with row := s.row + 1, phase := .lineStart }) ∨
    (s.cfg.height ≤ s.row + 1 ∧ s.afterRow = s.finish s.okResult) := by
  unfold State.afterRow
  split
  · split
    · exact .inl ⟨‹_›, ‹_›, rfl⟩
    · exact .inr (.inl ⟨‹_›, ‹_›, rfl⟩)
  · exact .inr (.inr ⟨by omega, rfl⟩)

theorem State.endLine_next {s t : State} (h : s.endLine = .next t) :
    ∃ r, s.out.row s.cfg.stride s.cfg.width s.row = some r ∧ t = (s.withReference r).afterRow := by
  unfold State.endLine at h
  split at h
  · exact ⟨_, ‹_›, by simpa using h.symm⟩
  · cases h

/-- Resumption: the next row's line, the end of the job, or the fallback. -/
theorem State.resumeFrom_cases (s : State) (p : Nat) :
    (∃ q, s.searchEol p = some q ∧ s.row + 1 < s.cfg.height ∧
      s.resumeFrom p = State.afterEol { s with cur := q + 12, row := s.row + 1 }) ∨
    (∃ q, s.searchEol p = some q ∧ s.cfg.height ≤ s.row + 1 ∧
      s.resumeFrom p = State.finish { s with cur := q + 12 } (State.okResult { s with cur := q + 12 })) ∨
    (s.searchEol p = none ∧
      s.resumeFrom p = s.finish (s.fallbackResult (s.failures + (s.cfg.height - (s.row + 1))))) := by
  unfold State.resumeFrom
  split
  · split
    · exact .inl ⟨_, ‹_›, ‹_›, rfl⟩
    · exact .inr (.inl ⟨_, ‹_›, by omega, rfl⟩)
  · exact .inr (.inr ⟨‹_›, rfl⟩)

/-- A raise: strict, Group 4 fallback, or Group 3 resumption. -/
theorem State.raise_next {s t : State} {e : FaxError} (h : s.raise e = .next t) :
    (s.cfg.tolerant = false ∧ t = s.cursorOpen.finish (errorResult e.status)) ∨
    (∃ u, s.cursorOpen.clearRow = some u ∧ s.cfg.tolerant = true ∧ s.cfg.op = .decodeG4 ∧
      t = u.finish (u.fallbackResult (u.cfg.height - u.row))) ∨
    (∃ u, s.cursorOpen.clearRow = some u ∧ s.cfg.tolerant = true ∧ s.cfg.op ≠ .decodeG4 ∧
      t = State.resumeFrom { u.refInvalidated with failures := u.failures + 1 } s.cur) := by
  unfold State.raise at h
  simp only at h
  split at h
  · split at h
    · cases h
    · split at h
      · exact .inr (.inl ⟨_, ‹_›, ‹_›, ‹_›, by simpa using h.symm⟩)
      · exact .inr (.inr ⟨_, ‹_›, ‹_›, ‹_›, by simpa using h.symm⟩)
  · rename_i ht
    exact .inl ⟨by simpa using ht, by simpa using h.symm⟩

/-- A raise stops only where a tolerant job's row lies outside the output buffer. -/
theorem State.raise_completes {s : State} (e : FaxError)
    (h : s.cfg.tolerant = true → (s.row + 1) * s.cfg.stride ≤ s.out.size) : ∃ t, s.raise e = .next t := by
  unfold State.raise
  simp only
  split
  · rename_i ht
    rw [State.clearRow, if_pos (by simpa using h ht)]
    dsimp only
    split
    · exact ⟨_, rfl⟩
    · exact ⟨_, rfl⟩
  · exact ⟨_, rfl⟩

/-- A taken job: refused by validation, or started. -/
theorem State.takeJob_next {s t : State} {op : Op} {begin : State → State} (h : s.takeJob op begin = .next t) :
    ∃ c, s.phase = .idle ∧ s.request = some c ∧ c.op = op ∧
      ((c.valid s.limits = true ∧ t = begin (s.jobStart c)) ∨
        (c.valid s.limits = false ∧
          t = { s with request := none, result := some (errorResult .preconditionViolation) })) := by
  unfold State.takeJob at h
  split at h
  · rename_i c hp hr
    split at h
    · split at h
      · exact ⟨c, hp, hr, ‹_›, .inl ⟨‹_›, by simpa using h.symm⟩⟩
      · rename_i hv
        exact ⟨c, hp, hr, ‹_›, .inr ⟨by simpa using hv, by simpa using h.symm⟩⟩
    · cases h
  · cases h

theorem State.endMode_next {s t : State} (h : s.endMode = .next t) :
    (s.a0 = (s.cfg.width : Int) ∧ s.endLine = .next t) ∨
    (s.a0 ≠ (s.cfg.width : Int) ∧ t = { s with phase := .modeWord }) := by
  unfold State.endMode at h
  split at h
  · exact .inl ⟨‹_›, h⟩
  · exact .inr ⟨‹_›, by simpa using h.symm⟩

/-- The end of a run, by its call site. -/
theorem State.endRun_next {s t : State} {site : RunSite} {x r : Nat} (h : s.endRun site x r = .next t) :
    (site = .line1D ∧ s.pos + r = s.cfg.width ∧ State.endLine { s with pos := s.pos + r } = .next t) ∨
    (site = .line1D ∧ s.pos + r ≠ s.cfg.width ∧
      t = { s with pos := s.pos + r, color := flipColor s.color, phase := .run .line1D (s.pos + r) 0 }) ∨
    (site = .horizontal1 ∧ t = { s with phase := .run .horizontal2 (x + r) 0 }) ∨
    (site = .horizontal2 ∧ State.endMode { s with a0 := ((x + r : Nat) : Int) } = .next t) := by
  cases site with
  | line1D =>
    simp only [State.endRun] at h
    split at h
    · exact .inl ⟨rfl, ‹_›, h⟩
    · exact .inr (.inl ⟨rfl, ‹_›, by simpa using h.symm⟩)
  | horizontal1 =>
    simp only [State.endRun] at h
    exact .inr (.inr (.inl ⟨rfl, by simpa using h.symm⟩))
  | horizontal2 => exact .inr (.inr (.inr ⟨rfl, h⟩))

/-- One decoded run word: an overrun, the end of the run, or a makeup word. -/
theorem State.decodeRunWord_next {s t : State} {len : Nat} {e : RunEntry} {site : RunSite} {x total : Nat}
    (h : s.decodeRunWord len e site x total = .next t) :
    (s.cfg.width < x + total + e.run ∧ s.raise .overrunError = .next t) ∨
    (∃ u, x + total + e.run ≤ s.cfg.width ∧
      s.paint (x + total) (x + total + e.run) (s.runColor site) = some u ∧
      ((e.terminating = true ∧ (u.advanced len).endRun site x (total + e.run) = .next t) ∨
        (e.terminating = false ∧ t = { u.advanced len with phase := .run site x (total + e.run) }))) := by
  unfold State.decodeRunWord at h
  split at h
  · exact .inl ⟨‹_›, h⟩
  · split at h
    · cases h
    · refine .inr ⟨_, by omega, ‹_›, ?_⟩
      split at h
      · exact .inl ⟨‹_›, h⟩
      · rename_i ht
        exact .inr ⟨by simpa using ht, by simpa using h.symm⟩

/-- The end of a mode of the encoder: the next mode, the next row, or the end of block. -/
theorem State.endEncodeMode_next {s t : State} (h : s.endEncodeMode = .next t) :
    (s.a0 < (s.cfg.width : Int) ∧ t = { s with phase := .encodeMode }) ∨
    (∃ r, (s.cfg.width : Int) ≤ s.a0 ∧ s.inputRow = some r ∧
      ((s.row + 1 < s.cfg.height ∧ t = State.startEncodeRow { s with ref := r, row := s.row + 1 }) ∨
        (s.cfg.height ≤ s.row + 1 ∧ t = { s with ref := r, phase := .encodeEnd }))) := by
  unfold State.endEncodeMode at h
  split at h
  · exact .inl ⟨‹_›, by simpa using h.symm⟩
  · split at h
    · cases h
    · refine .inr ⟨_, by omega, ‹_›, ?_⟩
      simp only at h
      split at h
      · exact .inl ⟨‹_›, by simpa using h.symm⟩
      · exact .inr ⟨by omega, by simpa using h.symm⟩

/-- One emitted run word, in the first or the second run of a horizontal mode. -/
theorem State.emitRunWord_next {s t : State} {i : Instr} {e : RunEntry} (h : s.emitRunWord i e = .next t) :
    (∃ left a1 a2, s.phase = .encodeRun1 left a1 a2 ∧ i = encoderRunWord s.color left ∧
      ((e.terminating = true ∧ t = { s.emit (encode 0 i) with phase := .encodeRun2 (a2 - a1) a2 }) ∨
        (e.terminating = false ∧ t = { s.emit (encode 0 i) with phase := .encodeRun1 (left - e.run) a1 a2 }))) ∨
    (∃ left a2, s.phase = .encodeRun2 left a2 ∧ i = encoderRunWord (flipColor s.color) left ∧
      ((e.terminating = true ∧ State.endEncodeMode { s.emit (encode 0 i) with a0 := (a2 : Int) } = .next t) ∨
        (e.terminating = false ∧ t = { s.emit (encode 0 i) with phase := .encodeRun2 (left - e.run) a2 }))) := by
  unfold State.emitRunWord at h
  split at h
  · rename_i left a1 a2 hp
    split at h
    · refine .inl ⟨left, a1, a2, hp, ‹_›, ?_⟩
      simp only at h
      split at h
      · exact .inl ⟨‹_›, by simpa using h.symm⟩
      · rename_i ht
        exact .inr ⟨by simpa using ht, by simpa using h.symm⟩
    · cases h
  · rename_i left a2 hp
    split at h
    · refine .inr ⟨left, a2, hp, ‹_›, ?_⟩
      simp only at h
      split at h
      · exact .inl ⟨‹_›, h⟩
      · rename_i ht
        exact .inr ⟨by simpa using ht, by simpa using h.symm⟩
    · cases h
  · cases h

/-- A run word is decoded in a run of its colour, or emitted. -/
theorem State.runWord_next {s t : State} {i : Instr} {e : RunEntry} (h : s.runWord i e = .next t) :
    (∃ site x total, s.phase = .run site x total ∧ runSpaceHas e.space (s.runColor site) = true ∧
      s.decodeRunWord (encode 0 i).length e site x total = .next t) ∨
    s.emitRunWord i e = .next t := by
  unfold State.runWord at h
  split at h
  · split at h
    · exact .inl ⟨_, _, _, ‹_›, ‹_›, h⟩
    · cases h
  · exact .inr h

/-- A mode word is executed at a mode position, or emitted where the encoder chooses it. -/
theorem State.atModeWord_next {s t : State} {i : Instr} {dec : State → Out} {enc : Row → State → Out}
    (h : s.atModeWord i dec enc = .next t) :
    (s.phase = .modeWord ∧ dec s = .next t) ∨
    (∃ r, s.phase = .encodeMode ∧ s.inputRow = some r ∧ s.encoderMode r = i ∧ enc r s = .next t) := by
  unfold State.atModeWord at h
  split at h
  · exact .inl ⟨‹_›, h⟩
  · split at h
    · cases h
    · split at h
      · exact .inr ⟨_, ‹_›, ‹_›, ‹_›, h⟩
      · cases h
  · cases h

theorem State.pass_next {s t : State} (h : s.pass = .next t) :
    ∃ u, s.paint s.a0p s.b2 s.color = some u ∧ State.endMode { u.advanced 4 with a0 := (s.b2 : Int) } = .next t := by
  unfold State.pass at h
  split at h
  · cases h
  · exact ⟨_, ‹_›, h⟩

/-- A vertical mode: in range, or an overrun. -/
theorem State.vertical_next {s t : State} {i : Instr} {d : Int} (h : s.vertical i d = .next t) :
    (∃ u, s.a0 < (s.b1 : Int) + d ∧ (s.b1 : Int) + d ≤ (s.cfg.width : Int) ∧
      s.paint s.a0p ((s.b1 : Int) + d).toNat s.color = some u ∧
      State.endMode (State.flipped { u.advanced (encode 0 i).length with a0 := (s.b1 : Int) + d }) = .next t) ∨
    (¬(s.a0 < (s.b1 : Int) + d ∧ (s.b1 : Int) + d ≤ (s.cfg.width : Int)) ∧ s.raise .overrunError = .next t) := by
  unfold State.vertical at h
  simp only at h
  split at h
  · rename_i hr
    split at h
    · cases h
    · exact .inl ⟨_, hr.1, hr.2, ‹_›, h⟩
  · exact .inr ⟨‹_›, h⟩

/-- An image word of uncompressed mode: an overrun, or its pixels. -/
theorem State.uncompressedImage_next {s t : State} {i : Instr} {z : Nat} {black : Bool}
    (h : s.uncompressedImage i z black = .next t) :
    s.phase = .uncompressed ∧
    ((s.cfg.width < s.pos + (z + black.toNat) ∧ s.raise .overrunError = .next t) ∨
      (∃ u v, s.pos + (z + black.toNat) ≤ s.cfg.width ∧ s.paint s.pos (s.pos + z) .white = some u ∧
        u.paint (s.pos + z) (s.pos + (z + black.toNat)) .black = some v ∧
        t = { v.advanced (encode 0 i).length with pos := s.pos + (z + black.toNat) })) := by
  unfold State.uncompressedImage at h
  split at h
  · refine ⟨‹_›, ?_⟩
    simp only at h
    split at h
    · exact .inl ⟨‹_›, h⟩
    · split at h
      · cases h
      · split at h
        · cases h
        · exact .inr ⟨_, _, by omega, ‹_›, ‹_›, by simpa using h.symm⟩
  · cases h

/-- An exit word of uncompressed mode: an overrun, or back to 2D coding. -/
theorem State.uncompressedExit_next {s t : State} {i : Instr} {n : Nat} {b : Bool}
    (h : s.uncompressedExit i n b = .next t) :
    s.phase = .uncompressed ∧
    ((s.cfg.width < s.pos + n ∧ s.raise .overrunError = .next t) ∨
      (∃ u, s.pos + n ≤ s.cfg.width ∧ s.paint s.pos (s.pos + n) .white = some u ∧
        State.endMode { u.advanced (encode 0 i).length with
          pos := s.pos + n, color := tagColor b, a0 := ((s.pos + n : Nat) : Int) } = .next t)) := by
  unfold State.uncompressedExit at h
  split at h
  · refine ⟨‹_›, ?_⟩
    split at h
    · exact .inl ⟨‹_›, h⟩
    · split at h
      · cases h
      · exact .inr ⟨_, by omega, ‹_›, h⟩
  · cases h

theorem State.atLzwCode_next {s t : State} {body : State → Out} (h : s.atLzwCode body = .next t) :
    s.phase = .lzw ∧ body (s.advanced s.lzwWidth) = .next t := by
  unfold State.atLzwCode at h
  split at h
  · exact ⟨‹_›, h⟩
  · cases h

/-- Leaving the LZW loop: the job ends `OK`, with the predictor reversed if it is asked for. -/
theorem State.finishLzw_next {s t : State} (h : s.finishLzw = .next t) :
    (s.cfg.predictor = .horizontal ∧ ∃ u, s.unpredict = some u ∧ t = u.finish u.okResult) ∨
    (s.cfg.predictor ≠ .horizontal ∧ t = s.finish s.okResult) := by
  unfold State.finishLzw at h
  split at h
  · split at h
    · exact .inl ⟨‹_›, _, ‹_›, by simpa using h.symm⟩
    · cases h
  · exact .inr ⟨‹_›, by simpa using h.symm⟩

/-- An added entry: the implicit reset, or one entry more and the code as the previous one. -/
theorem State.addEntry_cases (s : State) (code : Nat) (new : List Byte) :
    (s.lzwNext + 1 = 4095 ∧ s.addEntry code new = s.initTable) ∨
    (s.lzwNext + 1 ≠ 4095 ∧
      s.addEntry code new =
        { s with
          lzwTab := s.lzwTab.set s.lzwNext new, lzwNext := s.lzwNext + 1,
          lzwWidth := widthAfterAdd (s.lzwNext + 1) s.lzwWidth, lzwPrev := some code }) := by
  by_cases hn : s.lzwNext + 1 = 4095
  · exact .inl ⟨hn, if_pos hn⟩
  · exact .inr ⟨hn, if_neg hn⟩

/-- A step executes the fetched instruction or handles the event. -/
theorem step_word {s : State} {i : Instr} (h : s.fetch = .word i) : step s = exec i s := by
  simp [step, h]

theorem step_event {s : State} {e : Event} (h : s.fetch = .event e) : step s = s.handle e := by
  simp [step, h]

end Sys2Proof.Machine
end

