-- ==== Sys2Proof/Laws/PerInstr.lean ====
section
/-!
SUPPORT. Facts about every instruction as encoded text, one lemma per constructor.
-/
namespace Sys2Proof.Laws

/-- A run word has 2 to 13 bits, whatever the width given to `encode` (30_encoding.md R90, R93). -/
def RunWordLength.Statement (i : Instr) : Prop :=
  ∀ w, i.runEntry.isSome = true → 2 ≤ (encode w i).length ∧ (encode w i).length ≤ 13

theorem RunWordLength.wt0 : RunWordLength.Statement .wt0 := fun _ _ => ⟨Nat.le_of_ble_eq_true rfl, Nat.le_of_ble_eq_true rfl⟩
theorem RunWordLength.wt1 : RunWordLength.Statement .wt1 := fun _ _ => ⟨Nat.le_of_ble_eq_true rfl, Nat.le_of_ble_eq_true rfl⟩
theorem RunWordLength.wt2 : RunWordLength.Statement .wt2 := fun _ _ => ⟨Nat.le_of_ble_eq_true rfl, Nat.le_of_ble_eq_true rfl⟩
theorem RunWordLength.wt3 : RunWordLength.Statement .wt3 := fun _ _ => ⟨Nat.le_of_ble_eq_true rfl, Nat.le_of_ble_eq_true rfl⟩
theorem RunWordLength.wt4 : RunWordLength.Statement .wt4 := fun _ _ => ⟨Nat.le_of_ble_eq_true rfl, Nat.le_of_ble_eq_true rfl⟩
theorem RunWordLength.wt5 : RunWordLength.Statement .wt5 := fun _ _ => ⟨Nat.le_of_ble_eq_true rfl, Nat.le_of_ble_eq_true rfl⟩
theorem RunWordLength.wt6 : RunWordLength.Statement .wt6 := fun _ _ => ⟨Nat.le_of_ble_eq_true rfl, Nat.le_of_ble_eq_true rfl⟩
theorem RunWordLength.wt7 : RunWordLength.Statement .wt7 := fun _ _ => ⟨Nat.le_of_ble_eq_true rfl, Nat.le_of_ble_eq_true rfl⟩
theorem RunWordLength.wt8 : RunWordLength.Statement .wt8 := fun _ _ => ⟨Nat.le_of_ble_eq_true rfl, Nat.le_of_ble_eq_true rfl⟩
theorem RunWordLength.wt9 : RunWordLength.Statement .wt9 := fun _ _ => ⟨Nat.le_of_ble_eq_true rfl, Nat.le_of_ble_eq_true rfl⟩
theorem RunWordLength.wt10 : RunWordLength.Statement .wt10 := fun _ _ => ⟨Nat.le_of_ble_eq_true rfl, Nat.le_of_ble_eq_true rfl⟩
theorem RunWordLength.wt11 : RunWordLength.Statement .wt11 := fun _ _ => ⟨Nat.le_of_ble_eq_true rfl, Nat.le_of_ble_eq_true rfl⟩
theorem RunWordLength.wt12 : RunWordLength.Statement .wt12 := fun _ _ => ⟨Nat.le_of_ble_eq_true rfl, Nat.le_of_ble_eq_true rfl⟩
theorem RunWordLength.wt13 : RunWordLength.Statement .wt13 := fun _ _ => ⟨Nat.le_of_ble_eq_true rfl, Nat.le_of_ble_eq_true rfl⟩
theorem RunWordLength.wt14 : RunWordLength.Statement .wt14 := fun _ _ => ⟨Nat.le_of_ble_eq_true rfl, Nat.le_of_ble_eq_true rfl⟩
theorem RunWordLength.wt15 : RunWordLength.Statement .wt15 := fun _ _ => ⟨Nat.le_of_ble_eq_true rfl, Nat.le_of_ble_eq_true rfl⟩
theorem RunWordLength.wt16 : RunWordLength.Statement .wt16 := fun _ _ => ⟨Nat.le_of_ble_eq_true rfl, Nat.le_of_ble_eq_true rfl⟩
theorem RunWordLength.wt17 : RunWordLength.Statement .wt17 := fun _ _ => ⟨Nat.le_of_ble_eq_true rfl, Nat.le_of_ble_eq_true rfl⟩
theorem RunWordLength.wt18 : RunWordLength.Statement .wt18 := fun _ _ => ⟨Nat.le_of_ble_eq_true rfl, Nat.le_of_ble_eq_true rfl⟩
theorem RunWordLength.wt19 : RunWordLength.Statement .wt19 := fun _ _ => ⟨Nat.le_of_ble_eq_true rfl, Nat.le_of_ble_eq_true rfl⟩
theorem RunWordLength.wt20 : RunWordLength.Statement .wt20 := fun _ _ => ⟨Nat.le_of_ble_eq_true rfl, Nat.le_of_ble_eq_true rfl⟩
theorem RunWordLength.wt21 : RunWordLength.Statement .wt21 := fun _ _ => ⟨Nat.le_of_ble_eq_true rfl, Nat.le_of_ble_eq_true rfl⟩
theorem RunWordLength.wt22 : RunWordLength.Statement .wt22 := fun _ _ => ⟨Nat.le_of_ble_eq_true rfl, Nat.le_of_ble_eq_true rfl⟩
theorem RunWordLength.wt23 : RunWordLength.Statement .wt23 := fun _ _ => ⟨Nat.le_of_ble_eq_true rfl, Nat.le_of_ble_eq_true rfl⟩
theorem RunWordLength.wt24 : RunWordLength.Statement .wt24 := fun _ _ => ⟨Nat.le_of_ble_eq_true rfl, Nat.le_of_ble_eq_true rfl⟩
theorem RunWordLength.wt25 : RunWordLength.Statement .wt25 := fun _ _ => ⟨Nat.le_of_ble_eq_true rfl, Nat.le_of_ble_eq_true rfl⟩
theorem RunWordLength.wt26 : RunWordLength.Statement .wt26 := fun _ _ => ⟨Nat.le_of_ble_eq_true rfl, Nat.le_of_ble_eq_true rfl⟩
theorem RunWordLength.wt27 : RunWordLength.Statement .wt27 := fun _ _ => ⟨Nat.le_of_ble_eq_true rfl, Nat.le_of_ble_eq_true rfl⟩
theorem RunWordLength.wt28 : RunWordLength.Statement .wt28 := fun _ _ => ⟨Nat.le_of_ble_eq_true rfl, Nat.le_of_ble_eq_true rfl⟩
theorem RunWordLength.wt29 : RunWordLength.Statement .wt29 := fun _ _ => ⟨Nat.le_of_ble_eq_true rfl, Nat.le_of_ble_eq_true rfl⟩
theorem RunWordLength.wt30 : RunWordLength.Statement .wt30 := fun _ _ => ⟨Nat.le_of_ble_eq_true rfl, Nat.le_of_ble_eq_true rfl⟩
theorem RunWordLength.wt31 : RunWordLength.Statement .wt31 := fun _ _ => ⟨Nat.le_of_ble_eq_true rfl, Nat.le_of_ble_eq_true rfl⟩
theorem RunWordLength.wt32 : RunWordLength.Statement .wt32 := fun _ _ => ⟨Nat.le_of_ble_eq_true rfl, Nat.le_of_ble_eq_true rfl⟩
theorem RunWordLength.wt33 : RunWordLength.Statement .wt33 := fun _ _ => ⟨Nat.le_of_ble_eq_true rfl, Nat.le_of_ble_eq_true rfl⟩
theorem RunWordLength.wt34 : RunWordLength.Statement .wt34 := fun _ _ => ⟨Nat.le_of_ble_eq_true rfl, Nat.le_of_ble_eq_true rfl⟩
theorem RunWordLength.wt35 : RunWordLength.Statement .wt35 := fun _ _ => ⟨Nat.le_of_ble_eq_true rfl, Nat.le_of_ble_eq_true rfl⟩
theorem RunWordLength.wt36 : RunWordLength.Statement .wt36 := fun _ _ => ⟨Nat.le_of_ble_eq_true rfl, Nat.le_of_ble_eq_true rfl⟩
theorem RunWordLength.wt37 : RunWordLength.Statement .wt37 := fun _ _ => ⟨Nat.le_of_ble_eq_true rfl, Nat.le_of_ble_eq_true rfl⟩
theorem RunWordLength.wt38 : RunWordLength.Statement .wt38 := fun _ _ => ⟨Nat.le_of_ble_eq_true rfl, Nat.le_of_ble_eq_true rfl⟩
theorem RunWordLength.wt39 : RunWordLength.Statement .wt39 := fun _ _ => ⟨Nat.le_of_ble_eq_true rfl, Nat.le_of_ble_eq_true rfl⟩
theorem RunWordLength.wt40 : RunWordLength.Statement .wt40 := fun _ _ => ⟨Nat.le_of_ble_eq_true rfl, Nat.le_of_ble_eq_true rfl⟩
theorem RunWordLength.wt41 : RunWordLength.Statement .wt41 := fun _ _ => ⟨Nat.le_of_ble_eq_true rfl, Nat.le_of_ble_eq_true rfl⟩
theorem RunWordLength.wt42 : RunWordLength.Statement .wt42 := fun _ _ => ⟨Nat.le_of_ble_eq_true rfl, Nat.le_of_ble_eq_true rfl⟩
theorem RunWordLength.wt43 : RunWordLength.Statement .wt43 := fun _ _ => ⟨Nat.le_of_ble_eq_true rfl, Nat.le_of_ble_eq_true rfl⟩
theorem RunWordLength.wt44 : RunWordLength.Statement .wt44 := fun _ _ => ⟨Nat.le_of_ble_eq_true rfl, Nat.le_of_ble_eq_true rfl⟩
theorem RunWordLength.wt45 : RunWordLength.Statement .wt45 := fun _ _ => ⟨Nat.le_of_ble_eq_true rfl, Nat.le_of_ble_eq_true rfl⟩
theorem RunWordLength.wt46 : RunWordLength.Statement .wt46 := fun _ _ => ⟨Nat.le_of_ble_eq_true rfl, Nat.le_of_ble_eq_true rfl⟩
theorem RunWordLength.wt47 : RunWordLength.Statement .wt47 := fun _ _ => ⟨Nat.le_of_ble_eq_true rfl, Nat.le_of_ble_eq_true rfl⟩
theorem RunWordLength.wt48 : RunWordLength.Statement .wt48 := fun _ _ => ⟨Nat.le_of_ble_eq_true rfl, Nat.le_of_ble_eq_true rfl⟩
theorem RunWordLength.wt49 : RunWordLength.Statement .wt49 := fun _ _ => ⟨Nat.le_of_ble_eq_true rfl, Nat.le_of_ble_eq_true rfl⟩
theorem RunWordLength.wt50 : RunWordLength.Statement .wt50 := fun _ _ => ⟨Nat.le_of_ble_eq_true rfl, Nat.le_of_ble_eq_true rfl⟩
theorem RunWordLength.wt51 : RunWordLength.Statement .wt51 := fun _ _ => ⟨Nat.le_of_ble_eq_true rfl, Nat.le_of_ble_eq_true rfl⟩
theorem RunWordLength.wt52 : RunWordLength.Statement .wt52 := fun _ _ => ⟨Nat.le_of_ble_eq_true rfl, Nat.le_of_ble_eq_true rfl⟩
theorem RunWordLength.wt53 : RunWordLength.Statement .wt53 := fun _ _ => ⟨Nat.le_of_ble_eq_true rfl, Nat.le_of_ble_eq_true rfl⟩
theorem RunWordLength.wt54 : RunWordLength.Statement .wt54 := fun _ _ => ⟨Nat.le_of_ble_eq_true rfl, Nat.le_of_ble_eq_true rfl⟩
theorem RunWordLength.wt55 : RunWordLength.Statement .wt55 := fun _ _ => ⟨Nat.le_of_ble_eq_true rfl, Nat.le_of_ble_eq_true rfl⟩
theorem RunWordLength.wt56 : RunWordLength.Statement .wt56 := fun _ _ => ⟨Nat.le_of_ble_eq_true rfl, Nat.le_of_ble_eq_true rfl⟩
theorem RunWordLength.wt57 : RunWordLength.Statement .wt57 := fun _ _ => ⟨Nat.le_of_ble_eq_true rfl, Nat.le_of_ble_eq_true rfl⟩
theorem RunWordLength.wt58 : RunWordLength.Statement .wt58 := fun _ _ => ⟨Nat.le_of_ble_eq_true rfl, Nat.le_of_ble_eq_true rfl⟩
theorem RunWordLength.wt59 : RunWordLength.Statement .wt59 := fun _ _ => ⟨Nat.le_of_ble_eq_true rfl, Nat.le_of_ble_eq_true rfl⟩
theorem RunWordLength.wt60 : RunWordLength.Statement .wt60 := fun _ _ => ⟨Nat.le_of_ble_eq_true rfl, Nat.le_of_ble_eq_true rfl⟩
theorem RunWordLength.wt61 : RunWordLength.Statement .wt61 := fun _ _ => ⟨Nat.le_of_ble_eq_true rfl, Nat.le_of_ble_eq_true rfl⟩
theorem RunWordLength.wt62 : RunWordLength.Statement .wt62 := fun _ _ => ⟨Nat.le_of_ble_eq_true rfl, Nat.le_of_ble_eq_true rfl⟩
theorem RunWordLength.wt63 : RunWordLength.Statement .wt63 := fun _ _ => ⟨Nat.le_of_ble_eq_true rfl, Nat.le_of_ble_eq_true rfl⟩
theorem RunWordLength.wm64 : RunWordLength.Statement .wm64 := fun _ _ => ⟨Nat.le_of_ble_eq_true rfl, Nat.le_of_ble_eq_true rfl⟩
theorem RunWordLength.wm128 : RunWordLength.Statement .wm128 := fun _ _ => ⟨Nat.le_of_ble_eq_true rfl, Nat.le_of_ble_eq_true rfl⟩
theorem RunWordLength.wm192 : RunWordLength.Statement .wm192 := fun _ _ => ⟨Nat.le_of_ble_eq_true rfl, Nat.le_of_ble_eq_true rfl⟩
theorem RunWordLength.wm256 : RunWordLength.Statement .wm256 := fun _ _ => ⟨Nat.le_of_ble_eq_true rfl, Nat.le_of_ble_eq_true rfl⟩
theorem RunWordLength.wm320 : RunWordLength.Statement .wm320 := fun _ _ => ⟨Nat.le_of_ble_eq_true rfl, Nat.le_of_ble_eq_true rfl⟩
theorem RunWordLength.wm384 : RunWordLength.Statement .wm384 := fun _ _ => ⟨Nat.le_of_ble_eq_true rfl, Nat.le_of_ble_eq_true rfl⟩
theorem RunWordLength.wm448 : RunWordLength.Statement .wm448 := fun _ _ => ⟨Nat.le_of_ble_eq_true rfl, Nat.le_of_ble_eq_true rfl⟩
theorem RunWordLength.wm512 : RunWordLength.Statement .wm512 := fun _ _ => ⟨Nat.le_of_ble_eq_true rfl, Nat.le_of_ble_eq_true rfl⟩
theorem RunWordLength.wm576 : RunWordLength.Statement .wm576 := fun _ _ => ⟨Nat.le_of_ble_eq_true rfl, Nat.le_of_ble_eq_true rfl⟩
theorem RunWordLength.wm640 : RunWordLength.Statement .wm640 := fun _ _ => ⟨Nat.le_of_ble_eq_true rfl, Nat.le_of_ble_eq_true rfl⟩
theorem RunWordLength.wm704 : RunWordLength.Statement .wm704 := fun _ _ => ⟨Nat.le_of_ble_eq_true rfl, Nat.le_of_ble_eq_true rfl⟩
theorem RunWordLength.wm768 : RunWordLength.Statement .wm768 := fun _ _ => ⟨Nat.le_of_ble_eq_true rfl, Nat.le_of_ble_eq_true rfl⟩
theorem RunWordLength.wm832 : RunWordLength.Statement .wm832 := fun _ _ => ⟨Nat.le_of_ble_eq_true rfl, Nat.le_of_ble_eq_true rfl⟩
theorem RunWordLength.wm896 : RunWordLength.Statement .wm896 := fun _ _ => ⟨Nat.le_of_ble_eq_true rfl, Nat.le_of_ble_eq_true rfl⟩
theorem RunWordLength.wm960 : RunWordLength.Statement .wm960 := fun _ _ => ⟨Nat.le_of_ble_eq_true rfl, Nat.le_of_ble_eq_true rfl⟩
theorem RunWordLength.wm1024 : RunWordLength.Statement .wm1024 := fun _ _ => ⟨Nat.le_of_ble_eq_true rfl, Nat.le_of_ble_eq_true rfl⟩
theorem RunWordLength.wm1088 : RunWordLength.Statement .wm1088 := fun _ _ => ⟨Nat.le_of_ble_eq_true rfl, Nat.le_of_ble_eq_true rfl⟩
theorem RunWordLength.wm1152 : RunWordLength.Statement .wm1152 := fun _ _ => ⟨Nat.le_of_ble_eq_true rfl, Nat.le_of_ble_eq_true rfl⟩
theorem RunWordLength.wm1216 : RunWordLength.Statement .wm1216 := fun _ _ => ⟨Nat.le_of_ble_eq_true rfl, Nat.le_of_ble_eq_true rfl⟩
theorem RunWordLength.wm1280 : RunWordLength.Statement .wm1280 := fun _ _ => ⟨Nat.le_of_ble_eq_true rfl, Nat.le_of_ble_eq_true rfl⟩
theorem RunWordLength.wm1344 : RunWordLength.Statement .wm1344 := fun _ _ => ⟨Nat.le_of_ble_eq_true rfl, Nat.le_of_ble_eq_true rfl⟩
theorem RunWordLength.wm1408 : RunWordLength.Statement .wm1408 := fun _ _ => ⟨Nat.le_of_ble_eq_true rfl, Nat.le_of_ble_eq_true rfl⟩
theorem RunWordLength.wm1472 : RunWordLength.Statement .wm1472 := fun _ _ => ⟨Nat.le_of_ble_eq_true rfl, Nat.le_of_ble_eq_true rfl⟩
theorem RunWordLength.wm1536 : RunWordLength.Statement .wm1536 := fun _ _ => ⟨Nat.le_of_ble_eq_true rfl, Nat.le_of_ble_eq_true rfl⟩
theorem RunWordLength.wm1600 : RunWordLength.Statement .wm1600 := fun _ _ => ⟨Nat.le_of_ble_eq_true rfl, Nat.le_of_ble_eq_true rfl⟩
theorem RunWordLength.wm1664 : RunWordLength.Statement .wm1664 := fun _ _ => ⟨Nat.le_of_ble_eq_true rfl, Nat.le_of_ble_eq_true rfl⟩
theorem RunWordLength.wm1728 : RunWordLength.Statement .wm1728 := fun _ _ => ⟨Nat.le_of_ble_eq_true rfl, Nat.le_of_ble_eq_true rfl⟩
theorem RunWordLength.bt0 : RunWordLength.Statement .bt0 := fun _ _ => ⟨Nat.le_of_ble_eq_true rfl, Nat.le_of_ble_eq_true rfl⟩
theorem RunWordLength.bt1 : RunWordLength.Statement .bt1 := fun _ _ => ⟨Nat.le_of_ble_eq_true rfl, Nat.le_of_ble_eq_true rfl⟩
theorem RunWordLength.bt2 : RunWordLength.Statement .bt2 := fun _ _ => ⟨Nat.le_of_ble_eq_true rfl, Nat.le_of_ble_eq_true rfl⟩
theorem RunWordLength.bt3 : RunWordLength.Statement .bt3 := fun _ _ => ⟨Nat.le_of_ble_eq_true rfl, Nat.le_of_ble_eq_true rfl⟩
theorem RunWordLength.bt4 : RunWordLength.Statement .bt4 := fun _ _ => ⟨Nat.le_of_ble_eq_true rfl, Nat.le_of_ble_eq_true rfl⟩
theorem RunWordLength.bt5 : RunWordLength.Statement .bt5 := fun _ _ => ⟨Nat.le_of_ble_eq_true rfl, Nat.le_of_ble_eq_true rfl⟩
theorem RunWordLength.bt6 : RunWordLength.Statement .bt6 := fun _ _ => ⟨Nat.le_of_ble_eq_true rfl, Nat.le_of_ble_eq_true rfl⟩
theorem RunWordLength.bt7 : RunWordLength.Statement .bt7 := fun _ _ => ⟨Nat.le_of_ble_eq_true rfl, Nat.le_of_ble_eq_true rfl⟩
theorem RunWordLength.bt8 : RunWordLength.Statement .bt8 := fun _ _ => ⟨Nat.le_of_ble_eq_true rfl, Nat.le_of_ble_eq_true rfl⟩
theorem RunWordLength.bt9 : RunWordLength.Statement .bt9 := fun _ _ => ⟨Nat.le_of_ble_eq_true rfl, Nat.le_of_ble_eq_true rfl⟩
theorem RunWordLength.bt10 : RunWordLength.Statement .bt10 := fun _ _ => ⟨Nat.le_of_ble_eq_true rfl, Nat.le_of_ble_eq_true rfl⟩
theorem RunWordLength.bt11 : RunWordLength.Statement .bt11 := fun _ _ => ⟨Nat.le_of_ble_eq_true rfl, Nat.le_of_ble_eq_true rfl⟩
theorem RunWordLength.bt12 : RunWordLength.Statement .bt12 := fun _ _ => ⟨Nat.le_of_ble_eq_true rfl, Nat.le_of_ble_eq_true rfl⟩
theorem RunWordLength.bt13 : RunWordLength.Statement .bt13 := fun _ _ => ⟨Nat.le_of_ble_eq_true rfl, Nat.le_of_ble_eq_true rfl⟩
theorem RunWordLength.bt14 : RunWordLength.Statement .bt14 := fun _ _ => ⟨Nat.le_of_ble_eq_true rfl, Nat.le_of_ble_eq_true rfl⟩
theorem RunWordLength.bt15 : RunWordLength.Statement .bt15 := fun _ _ => ⟨Nat.le_of_ble_eq_true rfl, Nat.le_of_ble_eq_true rfl⟩
theorem RunWordLength.bt16 : RunWordLength.Statement .bt16 := fun _ _ => ⟨Nat.le_of_ble_eq_true rfl, Nat.le_of_ble_eq_true rfl⟩
theorem RunWordLength.bt17 : RunWordLength.Statement .bt17 := fun _ _ => ⟨Nat.le_of_ble_eq_true rfl, Nat.le_of_ble_eq_true rfl⟩
theorem RunWordLength.bt18 : RunWordLength.Statement .bt18 := fun _ _ => ⟨Nat.le_of_ble_eq_true rfl, Nat.le_of_ble_eq_true rfl⟩
theorem RunWordLength.bt19 : RunWordLength.Statement .bt19 := fun _ _ => ⟨Nat.le_of_ble_eq_true rfl, Nat.le_of_ble_eq_true rfl⟩
theorem RunWordLength.bt20 : RunWordLength.Statement .bt20 := fun _ _ => ⟨Nat.le_of_ble_eq_true rfl, Nat.le_of_ble_eq_true rfl⟩
theorem RunWordLength.bt21 : RunWordLength.Statement .bt21 := fun _ _ => ⟨Nat.le_of_ble_eq_true rfl, Nat.le_of_ble_eq_true rfl⟩
theorem RunWordLength.bt22 : RunWordLength.Statement .bt22 := fun _ _ => ⟨Nat.le_of_ble_eq_true rfl, Nat.le_of_ble_eq_true rfl⟩
theorem RunWordLength.bt23 : RunWordLength.Statement .bt23 := fun _ _ => ⟨Nat.le_of_ble_eq_true rfl, Nat.le_of_ble_eq_true rfl⟩
theorem RunWordLength.bt24 : RunWordLength.Statement .bt24 := fun _ _ => ⟨Nat.le_of_ble_eq_true rfl, Nat.le_of_ble_eq_true rfl⟩
theorem RunWordLength.bt25 : RunWordLength.Statement .bt25 := fun _ _ => ⟨Nat.le_of_ble_eq_true rfl, Nat.le_of_ble_eq_true rfl⟩
theorem RunWordLength.bt26 : RunWordLength.Statement .bt26 := fun _ _ => ⟨Nat.le_of_ble_eq_true rfl, Nat.le_of_ble_eq_true rfl⟩
theorem RunWordLength.bt27 : RunWordLength.Statement .bt27 := fun _ _ => ⟨Nat.le_of_ble_eq_true rfl, Nat.le_of_ble_eq_true rfl⟩
theorem RunWordLength.bt28 : RunWordLength.Statement .bt28 := fun _ _ => ⟨Nat.le_of_ble_eq_true rfl, Nat.le_of_ble_eq_true rfl⟩
theorem RunWordLength.bt29 : RunWordLength.Statement .bt29 := fun _ _ => ⟨Nat.le_of_ble_eq_true rfl, Nat.le_of_ble_eq_true rfl⟩
theorem RunWordLength.bt30 : RunWordLength.Statement .bt30 := fun _ _ => ⟨Nat.le_of_ble_eq_true rfl, Nat.le_of_ble_eq_true rfl⟩
theorem RunWordLength.bt31 : RunWordLength.Statement .bt31 := fun _ _ => ⟨Nat.le_of_ble_eq_true rfl, Nat.le_of_ble_eq_true rfl⟩
theorem RunWordLength.bt32 : RunWordLength.Statement .bt32 := fun _ _ => ⟨Nat.le_of_ble_eq_true rfl, Nat.le_of_ble_eq_true rfl⟩
theorem RunWordLength.bt33 : RunWordLength.Statement .bt33 := fun _ _ => ⟨Nat.le_of_ble_eq_true rfl, Nat.le_of_ble_eq_true rfl⟩
theorem RunWordLength.bt34 : RunWordLength.Statement .bt34 := fun _ _ => ⟨Nat.le_of_ble_eq_true rfl, Nat.le_of_ble_eq_true rfl⟩
theorem RunWordLength.bt35 : RunWordLength.Statement .bt35 := fun _ _ => ⟨Nat.le_of_ble_eq_true rfl, Nat.le_of_ble_eq_true rfl⟩
theorem RunWordLength.bt36 : RunWordLength.Statement .bt36 := fun _ _ => ⟨Nat.le_of_ble_eq_true rfl, Nat.le_of_ble_eq_true rfl⟩
theorem RunWordLength.bt37 : RunWordLength.Statement .bt37 := fun _ _ => ⟨Nat.le_of_ble_eq_true rfl, Nat.le_of_ble_eq_true rfl⟩
theorem RunWordLength.bt38 : RunWordLength.Statement .bt38 := fun _ _ => ⟨Nat.le_of_ble_eq_true rfl, Nat.le_of_ble_eq_true rfl⟩
theorem RunWordLength.bt39 : RunWordLength.Statement .bt39 := fun _ _ => ⟨Nat.le_of_ble_eq_true rfl, Nat.le_of_ble_eq_true rfl⟩
theorem RunWordLength.bt40 : RunWordLength.Statement .bt40 := fun _ _ => ⟨Nat.le_of_ble_eq_true rfl, Nat.le_of_ble_eq_true rfl⟩
theorem RunWordLength.bt41 : RunWordLength.Statement .bt41 := fun _ _ => ⟨Nat.le_of_ble_eq_true rfl, Nat.le_of_ble_eq_true rfl⟩
theorem RunWordLength.bt42 : RunWordLength.Statement .bt42 := fun _ _ => ⟨Nat.le_of_ble_eq_true rfl, Nat.le_of_ble_eq_true rfl⟩
theorem RunWordLength.bt43 : RunWordLength.Statement .bt43 := fun _ _ => ⟨Nat.le_of_ble_eq_true rfl, Nat.le_of_ble_eq_true rfl⟩
theorem RunWordLength.bt44 : RunWordLength.Statement .bt44 := fun _ _ => ⟨Nat.le_of_ble_eq_true rfl, Nat.le_of_ble_eq_true rfl⟩
theorem RunWordLength.bt45 : RunWordLength.Statement .bt45 := fun _ _ => ⟨Nat.le_of_ble_eq_true rfl, Nat.le_of_ble_eq_true rfl⟩
theorem RunWordLength.bt46 : RunWordLength.Statement .bt46 := fun _ _ => ⟨Nat.le_of_ble_eq_true rfl, Nat.le_of_ble_eq_true rfl⟩
theorem RunWordLength.bt47 : RunWordLength.Statement .bt47 := fun _ _ => ⟨Nat.le_of_ble_eq_true rfl, Nat.le_of_ble_eq_true rfl⟩
theorem RunWordLength.bt48 : RunWordLength.Statement .bt48 := fun _ _ => ⟨Nat.le_of_ble_eq_true rfl, Nat.le_of_ble_eq_true rfl⟩
theorem RunWordLength.bt49 : RunWordLength.Statement .bt49 := fun _ _ => ⟨Nat.le_of_ble_eq_true rfl, Nat.le_of_ble_eq_true rfl⟩
theorem RunWordLength.bt50 : RunWordLength.Statement .bt50 := fun _ _ => ⟨Nat.le_of_ble_eq_true rfl, Nat.le_of_ble_eq_true rfl⟩
theorem RunWordLength.bt51 : RunWordLength.Statement .bt51 := fun _ _ => ⟨Nat.le_of_ble_eq_true rfl, Nat.le_of_ble_eq_true rfl⟩
theorem RunWordLength.bt52 : RunWordLength.Statement .bt52 := fun _ _ => ⟨Nat.le_of_ble_eq_true rfl, Nat.le_of_ble_eq_true rfl⟩
theorem RunWordLength.bt53 : RunWordLength.Statement .bt53 := fun _ _ => ⟨Nat.le_of_ble_eq_true rfl, Nat.le_of_ble_eq_true rfl⟩
theorem RunWordLength.bt54 : RunWordLength.Statement .bt54 := fun _ _ => ⟨Nat.le_of_ble_eq_true rfl, Nat.le_of_ble_eq_true rfl⟩
theorem RunWordLength.bt55 : RunWordLength.Statement .bt55 := fun _ _ => ⟨Nat.le_of_ble_eq_true rfl, Nat.le_of_ble_eq_true rfl⟩
theorem RunWordLength.bt56 : RunWordLength.Statement .bt56 := fun _ _ => ⟨Nat.le_of_ble_eq_true rfl, Nat.le_of_ble_eq_true rfl⟩
theorem RunWordLength.bt57 : RunWordLength.Statement .bt57 := fun _ _ => ⟨Nat.le_of_ble_eq_true rfl, Nat.le_of_ble_eq_true rfl⟩
theorem RunWordLength.bt58 : RunWordLength.Statement .bt58 := fun _ _ => ⟨Nat.le_of_ble_eq_true rfl, Nat.le_of_ble_eq_true rfl⟩
theorem RunWordLength.bt59 : RunWordLength.Statement .bt59 := fun _ _ => ⟨Nat.le_of_ble_eq_true rfl, Nat.le_of_ble_eq_true rfl⟩
theorem RunWordLength.bt60 : RunWordLength.Statement .bt60 := fun _ _ => ⟨Nat.le_of_ble_eq_true rfl, Nat.le_of_ble_eq_true rfl⟩
theorem RunWordLength.bt61 : RunWordLength.Statement .bt61 := fun _ _ => ⟨Nat.le_of_ble_eq_true rfl, Nat.le_of_ble_eq_true rfl⟩
theorem RunWordLength.bt62 : RunWordLength.Statement .bt62 := fun _ _ => ⟨Nat.le_of_ble_eq_true rfl, Nat.le_of_ble_eq_true rfl⟩
theorem RunWordLength.bt63 : RunWordLength.Statement .bt63 := fun _ _ => ⟨Nat.le_of_ble_eq_true rfl, Nat.le_of_ble_eq_true rfl⟩
theorem RunWordLength.bm64 : RunWordLength.Statement .bm64 := fun _ _ => ⟨Nat.le_of_ble_eq_true rfl, Nat.le_of_ble_eq_true rfl⟩
theorem RunWordLength.bm128 : RunWordLength.Statement .bm128 := fun _ _ => ⟨Nat.le_of_ble_eq_true rfl, Nat.le_of_ble_eq_true rfl⟩
theorem RunWordLength.bm192 : RunWordLength.Statement .bm192 := fun _ _ => ⟨Nat.le_of_ble_eq_true rfl, Nat.le_of_ble_eq_true rfl⟩
theorem RunWordLength.bm256 : RunWordLength.Statement .bm256 := fun _ _ => ⟨Nat.le_of_ble_eq_true rfl, Nat.le_of_ble_eq_true rfl⟩
theorem RunWordLength.bm320 : RunWordLength.Statement .bm320 := fun _ _ => ⟨Nat.le_of_ble_eq_true rfl, Nat.le_of_ble_eq_true rfl⟩
theorem RunWordLength.bm384 : RunWordLength.Statement .bm384 := fun _ _ => ⟨Nat.le_of_ble_eq_true rfl, Nat.le_of_ble_eq_true rfl⟩
theorem RunWordLength.bm448 : RunWordLength.Statement .bm448 := fun _ _ => ⟨Nat.le_of_ble_eq_true rfl, Nat.le_of_ble_eq_true rfl⟩
theorem RunWordLength.bm512 : RunWordLength.Statement .bm512 := fun _ _ => ⟨Nat.le_of_ble_eq_true rfl, Nat.le_of_ble_eq_true rfl⟩
theorem RunWordLength.bm576 : RunWordLength.Statement .bm576 := fun _ _ => ⟨Nat.le_of_ble_eq_true rfl, Nat.le_of_ble_eq_true rfl⟩
theorem RunWordLength.bm640 : RunWordLength.Statement .bm640 := fun _ _ => ⟨Nat.le_of_ble_eq_true rfl, Nat.le_of_ble_eq_true rfl⟩
theorem RunWordLength.bm704 : RunWordLength.Statement .bm704 := fun _ _ => ⟨Nat.le_of_ble_eq_true rfl, Nat.le_of_ble_eq_true rfl⟩
theorem RunWordLength.bm768 : RunWordLength.Statement .bm768 := fun _ _ => ⟨Nat.le_of_ble_eq_true rfl, Nat.le_of_ble_eq_true rfl⟩
theorem RunWordLength.bm832 : RunWordLength.Statement .bm832 := fun _ _ => ⟨Nat.le_of_ble_eq_true rfl, Nat.le_of_ble_eq_true rfl⟩
theorem RunWordLength.bm896 : RunWordLength.Statement .bm896 := fun _ _ => ⟨Nat.le_of_ble_eq_true rfl, Nat.le_of_ble_eq_true rfl⟩
theorem RunWordLength.bm960 : RunWordLength.Statement .bm960 := fun _ _ => ⟨Nat.le_of_ble_eq_true rfl, Nat.le_of_ble_eq_true rfl⟩
theorem RunWordLength.bm1024 : RunWordLength.Statement .bm1024 := fun _ _ => ⟨Nat.le_of_ble_eq_true rfl, Nat.le_of_ble_eq_true rfl⟩
theorem RunWordLength.bm1088 : RunWordLength.Statement .bm1088 := fun _ _ => ⟨Nat.le_of_ble_eq_true rfl, Nat.le_of_ble_eq_true rfl⟩
theorem RunWordLength.bm1152 : RunWordLength.Statement .bm1152 := fun _ _ => ⟨Nat.le_of_ble_eq_true rfl, Nat.le_of_ble_eq_true rfl⟩
theorem RunWordLength.bm1216 : RunWordLength.Statement .bm1216 := fun _ _ => ⟨Nat.le_of_ble_eq_true rfl, Nat.le_of_ble_eq_true rfl⟩
theorem RunWordLength.bm1280 : RunWordLength.Statement .bm1280 := fun _ _ => ⟨Nat.le_of_ble_eq_true rfl, Nat.le_of_ble_eq_true rfl⟩
theorem RunWordLength.bm1344 : RunWordLength.Statement .bm1344 := fun _ _ => ⟨Nat.le_of_ble_eq_true rfl, Nat.le_of_ble_eq_true rfl⟩
theorem RunWordLength.bm1408 : RunWordLength.Statement .bm1408 := fun _ _ => ⟨Nat.le_of_ble_eq_true rfl, Nat.le_of_ble_eq_true rfl⟩
theorem RunWordLength.bm1472 : RunWordLength.Statement .bm1472 := fun _ _ => ⟨Nat.le_of_ble_eq_true rfl, Nat.le_of_ble_eq_true rfl⟩
theorem RunWordLength.bm1536 : RunWordLength.Statement .bm1536 := fun _ _ => ⟨Nat.le_of_ble_eq_true rfl, Nat.le_of_ble_eq_true rfl⟩
theorem RunWordLength.bm1600 : RunWordLength.Statement .bm1600 := fun _ _ => ⟨Nat.le_of_ble_eq_true rfl, Nat.le_of_ble_eq_true rfl⟩
theorem RunWordLength.bm1664 : RunWordLength.Statement .bm1664 := fun _ _ => ⟨Nat.le_of_ble_eq_true rfl, Nat.le_of_ble_eq_true rfl⟩
theorem RunWordLength.bm1728 : RunWordLength.Statement .bm1728 := fun _ _ => ⟨Nat.le_of_ble_eq_true rfl, Nat.le_of_ble_eq_true rfl⟩
theorem RunWordLength.xm1792 : RunWordLength.Statement .xm1792 := fun _ _ => ⟨Nat.le_of_ble_eq_true rfl, Nat.le_of_ble_eq_true rfl⟩
theorem RunWordLength.xm1856 : RunWordLength.Statement .xm1856 := fun _ _ => ⟨Nat.le_of_ble_eq_true rfl, Nat.le_of_ble_eq_true rfl⟩
theorem RunWordLength.xm1920 : RunWordLength.Statement .xm1920 := fun _ _ => ⟨Nat.le_of_ble_eq_true rfl, Nat.le_of_ble_eq_true rfl⟩
theorem RunWordLength.xm1984 : RunWordLength.Statement .xm1984 := fun _ _ => ⟨Nat.le_of_ble_eq_true rfl, Nat.le_of_ble_eq_true rfl⟩
theorem RunWordLength.xm2048 : RunWordLength.Statement .xm2048 := fun _ _ => ⟨Nat.le_of_ble_eq_true rfl, Nat.le_of_ble_eq_true rfl⟩
theorem RunWordLength.xm2112 : RunWordLength.Statement .xm2112 := fun _ _ => ⟨Nat.le_of_ble_eq_true rfl, Nat.le_of_ble_eq_true rfl⟩
theorem RunWordLength.xm2176 : RunWordLength.Statement .xm2176 := fun _ _ => ⟨Nat.le_of_ble_eq_true rfl, Nat.le_of_ble_eq_true rfl⟩
theorem RunWordLength.xm2240 : RunWordLength.Statement .xm2240 := fun _ _ => ⟨Nat.le_of_ble_eq_true rfl, Nat.le_of_ble_eq_true rfl⟩
theorem RunWordLength.xm2304 : RunWordLength.Statement .xm2304 := fun _ _ => ⟨Nat.le_of_ble_eq_true rfl, Nat.le_of_ble_eq_true rfl⟩
theorem RunWordLength.xm2368 : RunWordLength.Statement .xm2368 := fun _ _ => ⟨Nat.le_of_ble_eq_true rfl, Nat.le_of_ble_eq_true rfl⟩
theorem RunWordLength.xm2432 : RunWordLength.Statement .xm2432 := fun _ _ => ⟨Nat.le_of_ble_eq_true rfl, Nat.le_of_ble_eq_true rfl⟩
theorem RunWordLength.xm2496 : RunWordLength.Statement .xm2496 := fun _ _ => ⟨Nat.le_of_ble_eq_true rfl, Nat.le_of_ble_eq_true rfl⟩
theorem RunWordLength.xm2560 : RunWordLength.Statement .xm2560 := fun _ _ => ⟨Nat.le_of_ble_eq_true rfl, Nat.le_of_ble_eq_true rfl⟩
theorem RunWordLength.eol (fill : Nat) : RunWordLength.Statement (.eol fill) := fun _ h => nomatch (h : false = true)
theorem RunWordLength.tag1 : RunWordLength.Statement .tag1 := fun _ h => nomatch (h : false = true)
theorem RunWordLength.tag0 : RunWordLength.Statement .tag0 := fun _ h => nomatch (h : false = true)
theorem RunWordLength.p : RunWordLength.Statement .p := fun _ h => nomatch (h : false = true)
theorem RunWordLength.h : RunWordLength.Statement .h := fun _ h => nomatch (h : false = true)
theorem RunWordLength.vl3 : RunWordLength.Statement .vl3 := fun _ h => nomatch (h : false = true)
theorem RunWordLength.vl2 : RunWordLength.Statement .vl2 := fun _ h => nomatch (h : false = true)
theorem RunWordLength.vl1 : RunWordLength.Statement .vl1 := fun _ h => nomatch (h : false = true)
theorem RunWordLength.v0 : RunWordLength.Statement .v0 := fun _ h => nomatch (h : false = true)
theorem RunWordLength.vr1 : RunWordLength.Statement .vr1 := fun _ h => nomatch (h : false = true)
theorem RunWordLength.vr2 : RunWordLength.Statement .vr2 := fun _ h => nomatch (h : false = true)
theorem RunWordLength.vr3 : RunWordLength.Statement .vr3 := fun _ h => nomatch (h : false = true)
theorem RunWordLength.extU : RunWordLength.Statement .extU := fun _ h => nomatch (h : false = true)
theorem RunWordLength.extRes (sel : BitVec 3) : RunWordLength.Statement (.extRes sel) := fun _ h => nomatch (h : false = true)
theorem RunWordLength.extG3 (sel : BitVec 3) : RunWordLength.Statement (.extG3 sel) := fun _ h => nomatch (h : false = true)
theorem RunWordLength.modeInvalid (x : Bool) : RunWordLength.Statement (.modeInvalid x) := fun _ h => nomatch (h : false = true)
theorem RunWordLength.uB : RunWordLength.Statement .uB := fun _ h => nomatch (h : false = true)
theorem RunWordLength.uWB : RunWordLength.Statement .uWB := fun _ h => nomatch (h : false = true)
theorem RunWordLength.uWWB : RunWordLength.Statement .uWWB := fun _ h => nomatch (h : false = true)
theorem RunWordLength.uWWWB : RunWordLength.Statement .uWWWB := fun _ h => nomatch (h : false = true)
theorem RunWordLength.uWWWWB : RunWordLength.Statement .uWWWWB := fun _ h => nomatch (h : false = true)
theorem RunWordLength.uWWWWW : RunWordLength.Statement .uWWWWW := fun _ h => nomatch (h : false = true)
theorem RunWordLength.uX0 (t : Bool) : RunWordLength.Statement (.uX0 t) := fun _ h => nomatch (h : false = true)
theorem RunWordLength.uX1 (t : Bool) : RunWordLength.Statement (.uX1 t) := fun _ h => nomatch (h : false = true)
theorem RunWordLength.uX2 (t : Bool) : RunWordLength.Statement (.uX2 t) := fun _ h => nomatch (h : false = true)
theorem RunWordLength.uX3 (t : Bool) : RunWordLength.Statement (.uX3 t) := fun _ h => nomatch (h : false = true)
theorem RunWordLength.uX4 (t : Bool) : RunWordLength.Statement (.uX4 t) := fun _ h => nomatch (h : false = true)
theorem RunWordLength.uInvalid : RunWordLength.Statement .uInvalid := fun _ h => nomatch (h : false = true)
theorem RunWordLength.lzwClr : RunWordLength.Statement .lzwClr := fun _ h => nomatch (h : false = true)
theorem RunWordLength.lzwEnd : RunWordLength.Statement .lzwEnd := fun _ h => nomatch (h : false = true)
theorem RunWordLength.lzwFirst (c : Nat) : RunWordLength.Statement (.lzwFirst c) := fun _ h => nomatch (h : false = true)
theorem RunWordLength.lzwEntry (code : Nat) : RunWordLength.Statement (.lzwEntry code) := fun _ h => nomatch (h : false = true)
theorem RunWordLength.lzwKwkwk (code : Nat) : RunWordLength.Statement (.lzwKwkwk code) := fun _ h => nomatch (h : false = true)
theorem RunWordLength.lzwInvalid (code : Nat) : RunWordLength.Statement (.lzwInvalid code) := fun _ h => nomatch (h : false = true)
theorem RunWordLength.eofb : RunWordLength.Statement .eofb := fun _ h => nomatch (h : false = true)
theorem RunWordLength.jobDecodeG31D : RunWordLength.Statement .jobDecodeG31D := fun _ h => nomatch (h : false = true)
theorem RunWordLength.jobDecodeG32D : RunWordLength.Statement .jobDecodeG32D := fun _ h => nomatch (h : false = true)
theorem RunWordLength.jobDecodeG4 : RunWordLength.Statement .jobDecodeG4 := fun _ h => nomatch (h : false = true)
theorem RunWordLength.jobDecodeLzw : RunWordLength.Statement .jobDecodeLzw := fun _ h => nomatch (h : false = true)
theorem RunWordLength.jobCopyNone : RunWordLength.Statement .jobCopyNone := fun _ h => nomatch (h : false = true)
theorem RunWordLength.jobEncodeG4 : RunWordLength.Statement .jobEncodeG4 := fun _ h => nomatch (h : false = true)

end Sys2Proof.Laws
end

