-- ==== Sys2Proof/Laws/Safety.lean ====
section
/-!
SUPPORT. What the invariant of a legal state gives, part by part, so that no later proof unfolds `State.legal`.
-/
namespace Sys2Proof.Machine

/-- The parts of the invariant. -/
theorem State.inv_iff {s : State} :
    s.Inv ↔ s.buffersWf = true ∧ s.lzwLegal = true ∧ s.inRange = true ∧ s.restUnlisted = true ∧ s.phaseLegal = true := by
  simp [State.Inv, State.legal, and_assoc]

/-- The ranges of the registers (10_state.md R20). -/
theorem State.inRange_iff {s : State} :
    s.inRange = true ↔ -1 ≤ s.a0 ∧ s.a0 ≤ (s.cfg.width : Int) ∧ s.pos ≤ s.cfg.width ∧ s.row ≤ s.cfg.height ∧
      s.failures ≤ s.cfg.height ∧ s.ref.length = s.cfg.width ∧ s.fill = s.cfg.fillOrder ∧
      s.lzwOut ≤ s.cfg.stride * s.cfg.height := by
  simp [State.inRange, and_assoc]

/-- A memory with every listed address below `b` reads 0 from `b` on. -/
theorem Memory.read_of_listed_below {m : Memory} {b a : Nat} (h : m.all (fun c => decide (c.1 < b)) = true)
    (ha : b ≤ a) : m.read a = 0 := by
  induction m with
  | nil => rfl
  | cons c m ih =>
    simp only [List.all_cons, Bool.and_eq_true, decide_eq_true_eq] at h
    simp only [Memory.read, if_neg (show ¬c.1 = a by omega)]
    exact ih h.2

/-- The part of the output buffer that nothing has written reads 0. -/
theorem State.restClear_of_restUnlisted {s : State} (h : s.restUnlisted = true) : s.restClear :=
  fun _ ha => Memory.read_of_listed_below h ha

end Sys2Proof.Machine
end

