-- ==== Sys2Proof/Tests/Slice0.lean ====
section
/-!
SUPPORT. Tests: the smoke of WellFormed, the decoding of words written out from the spec's tables, single steps whose
results are the spec's own examples, and for every statement with hypotheses a state that meets them.
-/
open Sys2Proof Sys2Proof.Machine

set_option Elab.async false

/-! ## WellFormed refuses each ill-formed operand -/

theorem test_wf_ext_res_111 : (Instr.extRes 7#3).wellFormed = false := by decide
theorem test_wf_lzw_first_256 : (Instr.lzwFirst 256).wellFormed = false := by decide
theorem test_wf_lzw_entry_clear : (Instr.lzwEntry 256).wellFormed = false := by decide
theorem test_wf_lzw_entry_end : (Instr.lzwEntry 257).wellFormed = false := by decide
theorem test_wf_lzw_entry_4095 : (Instr.lzwEntry 4095).wellFormed = false := by decide
theorem test_wf_lzw_kwkwk_257 : (Instr.lzwKwkwk 257).wellFormed = false := by decide
theorem test_wf_lzw_kwkwk_4095 : (Instr.lzwKwkwk 4095).wellFormed = false := by decide
theorem test_wf_lzw_invalid_257 : (Instr.lzwInvalid 257).wellFormed = false := by decide
theorem test_wf_lzw_invalid_4096 : (Instr.lzwInvalid 4096).wellFormed = false := by decide
theorem test_wf_accepts :
    WellFormed (.extRes 6#3) ∧ WellFormed (.lzwFirst 255) ∧ WellFormed (.lzwEntry 4094) ∧ WellFormed (.lzwKwkwk 258) ∧
      WellFormed (.lzwInvalid 4095) ∧ WellFormed .wt0 := by decide

/-! ## Decoding: the words of 41_run_length_codes.md R141 to R145, by the length and value columns -/

/-- Every word of a list of (length, value) pairs, followed by ones, decodes in a space to the instruction at its place. -/
def Tests.allDecode (sp : Space) (is : List Instr) (ws : List (Nat × Nat)) : Bool :=
  is.length == ws.length &&
    (is.zip ws).all (fun p => decode sp (bitsOf p.2.1 p.2.2 ++ [true, true]) == .word p.1)

/-- Length and value of each word, in run order, as R141 lists them. -/
def Tests.whiteTerminatingWords : List (Nat × Nat) :=
    [(8, 0x35), (6, 0x7), (4, 0x7), (4, 0x8), (4, 0xB), (4, 0xC), (4, 0xE), (4, 0xF)] ++
    [(5, 0x13), (5, 0x14), (5, 0x7), (5, 0x8), (6, 0x8), (6, 0x3), (6, 0x34), (6, 0x35)] ++
    [(6, 0x2A), (6, 0x2B), (7, 0x27), (7, 0xC), (7, 0x8), (7, 0x17), (7, 0x3), (7, 0x4)] ++
    [(7, 0x28), (7, 0x2B), (7, 0x13), (7, 0x24), (7, 0x18), (8, 0x2), (8, 0x3), (8, 0x1A)] ++
    [(8, 0x1B), (8, 0x12), (8, 0x13), (8, 0x14), (8, 0x15), (8, 0x16), (8, 0x17), (8, 0x28)] ++
    [(8, 0x29), (8, 0x2A), (8, 0x2B), (8, 0x2C), (8, 0x2D), (8, 0x4), (8, 0x5), (8, 0xA)] ++
    [(8, 0xB), (8, 0x52), (8, 0x53), (8, 0x54), (8, 0x55), (8, 0x24), (8, 0x25), (8, 0x58)] ++
    [(8, 0x59), (8, 0x5A), (8, 0x5B), (8, 0x4A), (8, 0x4B), (8, 0x32), (8, 0x33), (8, 0x34)]

/-- Length and value of each word, in run order, as R142 lists them. -/
def Tests.whiteMakeupWords : List (Nat × Nat) :=
    [(5, 0x1B), (5, 0x12), (6, 0x17), (7, 0x37), (8, 0x36), (8, 0x37), (8, 0x64), (8, 0x65)] ++
    [(8, 0x68), (8, 0x67), (9, 0xCC), (9, 0xCD), (9, 0xD2), (9, 0xD3), (9, 0xD4), (9, 0xD5)] ++
    [(9, 0xD6), (9, 0xD7), (9, 0xD8), (9, 0xD9), (9, 0xDA), (9, 0xDB), (9, 0x98), (9, 0x99)] ++
    [(9, 0x9A), (6, 0x18), (9, 0x9B)]

/-- Length and value of each word, in run order, as R143 lists them. -/
def Tests.blackTerminatingWords : List (Nat × Nat) :=
    [(10, 0x37), (3, 0x2), (2, 0x3), (2, 0x2), (3, 0x3), (4, 0x3), (4, 0x2), (5, 0x3)] ++
    [(6, 0x5), (6, 0x4), (7, 0x4), (7, 0x5), (7, 0x7), (8, 0x4), (8, 0x7), (9, 0x18)] ++
    [(10, 0x17), (10, 0x18), (10, 0x8), (11, 0x67), (11, 0x68), (11, 0x6C), (11, 0x37), (11, 0x28)] ++
    [(11, 0x17), (11, 0x18), (12, 0xCA), (12, 0xCB), (12, 0xCC), (12, 0xCD), (12, 0x68), (12, 0x69)] ++
    [(12, 0x6A), (12, 0x6B), (12, 0xD2), (12, 0xD3), (12, 0xD4), (12, 0xD5), (12, 0xD6), (12, 0xD7)] ++
    [(12, 0x6C), (12, 0x6D), (12, 0xDA), (12, 0xDB), (12, 0x54), (12, 0x55), (12, 0x56), (12, 0x57)] ++
    [(12, 0x64), (12, 0x65), (12, 0x52), (12, 0x53), (12, 0x24), (12, 0x37), (12, 0x38), (12, 0x27)] ++
    [(12, 0x28), (12, 0x58), (12, 0x59), (12, 0x2B), (12, 0x2C), (12, 0x5A), (12, 0x66), (12, 0x67)]

/-- Length and value of each word, in run order, as R144 lists them. -/
def Tests.blackMakeupWords : List (Nat × Nat) :=
    [(10, 0xF), (12, 0xC8), (12, 0xC9), (12, 0x5B), (12, 0x33), (12, 0x34), (12, 0x35), (13, 0x6C)] ++
    [(13, 0x6D), (13, 0x4A), (13, 0x4B), (13, 0x4C), (13, 0x4D), (13, 0x72), (13, 0x73), (13, 0x74)] ++
    [(13, 0x75), (13, 0x76), (13, 0x77), (13, 0x52), (13, 0x53), (13, 0x54), (13, 0x55), (13, 0x5A)] ++
    [(13, 0x5B), (13, 0x64), (13, 0x65)]

/-- Length and value of each word, in run order, as R145 lists them. -/
def Tests.extendedMakeupWords : List (Nat × Nat) :=
    [(11, 0x8), (11, 0xC), (11, 0xD), (12, 0x12), (12, 0x13), (12, 0x14), (12, 0x15), (12, 0x16)] ++
    [(12, 0x17), (12, 0x1C), (12, 0x1D), (12, 0x1E), (12, 0x1F)]

theorem test_decode_white_terminating :
    Tests.allDecode (.run .white) whiteTerminating Tests.whiteTerminatingWords = true := by decide +kernel
theorem test_decode_white_makeup :
    Tests.allDecode (.run .white) whiteMakeup Tests.whiteMakeupWords = true := by decide +kernel
theorem test_decode_black_terminating :
    Tests.allDecode (.run .black) blackTerminating Tests.blackTerminatingWords = true := by decide +kernel
theorem test_decode_black_makeup :
    Tests.allDecode (.run .black) blackMakeup Tests.blackMakeupWords = true := by decide +kernel
theorem test_decode_extended_white :
    Tests.allDecode (.run .white) extendedMakeup Tests.extendedMakeupWords = true := by decide +kernel
theorem test_decode_extended_black :
    Tests.allDecode (.run .black) extendedMakeup Tests.extendedMakeupWords = true := by decide +kernel

/-! Words written out bit by bit, at least one of each family. -/

/-- R141: run 15 is `110101`. -/
theorem test_decode_wt15 : decode (.run .white) [true, true, false, true, false, true] = .word .wt15 := by
  decide +kernel
/-- R142: run 192 is `010111`. -/
theorem test_decode_wm192 : decode (.run .white) [false, true, false, true, true, true] = .word .wm192 := by
  decide +kernel
/-- R143: run 7 is `00011`. -/
theorem test_decode_bt7 : decode (.run .black) [false, false, false, true, true] = .word .bt7 := by decide +kernel
/-- R144: run 64 is `0000001111`. -/
theorem test_decode_bm64 :
    decode (.run .black) [false, false, false, false, false, false, true, true, true, true] = .word .bm64 := by
  decide +kernel
/-- R145: run 1792 is `00000001000`. -/
theorem test_decode_xm1792 :
    decode (.run .black) [false, false, false, false, false, false, false, true, false, false, false] =
      .word .xm1792 := by decide +kernel
/-- R146: the EOL is eleven zeros and a one; R243: fill zeros may precede it only with `FILL_BITS`. -/
theorem test_decode_eol :
    decode (.frame true) (List.replicate 14 false ++ [true]) = .word (.eol 3) ∧
      decode (.frame false) (List.replicate 11 false ++ [true]) = .word (.eol 0) ∧
      decode (.frame false) (List.replicate 12 false ++ [true]) = .reject .noEol ∧
      decode (.frame true) (List.replicate 10 false ++ [true]) = .reject .noEol ∧
      decode (.run .white) (List.replicate 11 false ++ [true]) = .word (.eol 0) ∧
      decode (.mode true) (List.replicate 11 false ++ [true]) = .word (.eol 0) := by decide +kernel
/-- R246: `1` is 1D, `0` is 2D. -/
theorem test_decode_tag : decode .tag [true] = .word .tag1 ∧ decode .tag [false] = .word .tag0 := by decide +kernel
/-- R203: the ten mode words. -/
theorem test_decode_modes :
    decode (.mode true) [false, false, false, true] = .word .p ∧
      decode (.mode true) [false, false, true] = .word .h ∧
      decode (.mode true) [false, false, false, false, false, true, false] = .word .vl3 ∧
      decode (.mode true) [false, false, false, false, true, false] = .word .vl2 ∧
      decode (.mode true) [false, true, false] = .word .vl1 ∧
      decode (.mode true) [true] = .word .v0 ∧
      decode (.mode true) [false, true, true] = .word .vr1 ∧
      decode (.mode true) [false, false, false, false, true, true] = .word .vr2 ∧
      decode (.mode true) [false, false, false, false, false, true, true] = .word .vr3 ∧
      decode (.mode true) [false, false, false, false, false, false, true, true, true, true] = .word .extU := by
  decide +kernel
/-- R217 and R219: selector `110`; R218: eight zeros, and `00000001`. -/
theorem test_decode_invalid_modes :
    decode (.mode true) [false, false, false, false, false, false, true, true, true, false] = .word (.extRes 6#3) ∧
      decode (.mode false) [false, false, false, false, false, false, true, true, true, true] = .word (.extG3 7#3) ∧
      decode (.mode true) (List.replicate 8 false) = .word (.modeInvalid false) ∧
      decode (.mode false) (List.replicate 7 false ++ [true]) = .word (.modeInvalid true) := by decide +kernel
/-- R220: the six image words. -/
theorem test_decode_image_words :
    decode .uncompressed [true] = .word .uB ∧ decode .uncompressed [false, true] = .word .uWB ∧
      decode .uncompressed [false, false, true] = .word .uWWB ∧
      decode .uncompressed [false, false, false, true] = .word .uWWWB ∧
      decode .uncompressed [false, false, false, false, true] = .word .uWWWWB ∧
      decode .uncompressed [false, false, false, false, false, true] = .word .uWWWWW := by decide +kernel
/-- R220: the five exit words, and eleven zeros (R233). -/
theorem test_decode_exit_words :
    decode .uncompressed [false, false, false, false, false, false, true, true] = .word (.uX0 true) ∧
      decode .uncompressed [false, false, false, false, false, false, false, true, false] = .word (.uX1 false) ∧
      decode .uncompressed (List.replicate 8 false ++ [true, true]) = .word (.uX2 true) ∧
      decode .uncompressed (List.replicate 9 false ++ [true, false]) = .word (.uX3 false) ∧
      decode .uncompressed (List.replicate 10 false ++ [true, true]) = .word (.uX4 true) ∧
      decode .uncompressed (List.replicate 11 false) = .word .uInvalid := by decide +kernel
/-- R300, R304: 256 and 257 in nine bits, a literal, an entry, the next index, a code beyond it, 12 bits. -/
theorem test_decode_lzw :
    decode (.lzw 9 258 true) [true, false, false, false, false, false, false, false, false] = .word .lzwClr ∧
      decode (.lzw 9 258 true) [true, false, false, false, false, false, false, false, true] = .word .lzwEnd ∧
      decode (.lzw 9 258 true) [false, false, true, false, false, false, false, false, true] =
        .word (.lzwFirst 65) ∧
      decode (.lzw 9 259 false) [true, false, false, false, false, false, false, true, false] =
        .word (.lzwEntry 258) ∧
      decode (.lzw 9 258 false) [true, false, false, false, false, false, false, true, false] =
        .word (.lzwKwkwk 258) ∧
      decode (.lzw 9 258 true) [true, false, false, false, false, false, false, true, false] =
        .word (.lzwInvalid 258) ∧
      decode (.lzw 12 2047 false) [true, true, true, true, true, true, true, true, true, true, true, true] =
        .word (.lzwInvalid 4095) := by decide +kernel
/-- R284: two EOL words. -/
theorem test_decode_eofb :
    decode .endOfBlock (List.replicate 11 false ++ [true] ++ List.replicate 11 false ++ [true]) = .word .eofb := by
  decide +kernel
/-- 47_job_dispatch.md R341: the six operations. -/
theorem test_decode_jobs :
    [Op.decodeG31D, .decodeG32D, .decodeG4, .decodeLzw, .copyNone, .encodeG4].map Op.instr =
      [.jobDecodeG31D, .jobDecodeG32D, .jobDecodeG4, .jobDecodeLzw, .jobCopyNone, .jobEncodeG4] := by decide
/-- The host's question: the white word of run 0, by its number, is read back from a table row of one byte. -/
theorem test_table_word : decodeTableWord 8 0x35 = some .wt0 := by decide +kernel

/-! ## Small states -/

/-- A configuration with 8-bit samples. -/
def Tests.cfg (op : Op) (width height : Nat) (options : BitVec 32) (tolerant : Bool) (input : List Byte) :
    JobConfig :=
  { JobConfig.blank with
    op := op
    width := width
    height := height
    t4Options := options
    tolerant := tolerant
    bitsPerSample := 8
    input := Buffer.ofBytes input }

/-- The engine right after the start of a job, at a position of the pseudocode. -/
def Tests.at (c : JobConfig) (phase : Phase) : State := { State.reset.jobStart c with phase := phase }

/-- The next state of an outcome. -/
def Tests.nextOf (o : Out) : Option State :=
  match o with
  | .next s => some s
  | .fault _ => none
  | .refused _ => none

/-- A Group 4 line of 16 pixels with black reference pixels 4..7 (`Trans(ref) = [4, 8]`), two rows. -/
def Tests.g4 (input : List Byte) : State :=
  { Tests.at (Tests.cfg .decodeG4 16 2 0 false input) .modeWord with
    ref := List.replicate 4 .white ++ List.replicate 4 .black ++ List.replicate 8 .white }

/-- A Group 3 1D line of 100 pixels. -/
def Tests.line1D : State := Tests.at (Tests.cfg .decodeG31D 100 2 0 true [0xDE, 0x00]) (.run .line1D 0 0)

/-- An LZW job of 4 bytes with `a` (97) already output as the previous code. -/
def Tests.lzw : State :=
  { Tests.at (Tests.cfg .decodeLzw 4 1 0 false [0x81, 0x20, 0x00]) .lzw with
    lzwPrev := some 97
    lzwOut := 1
    out := ⟨4, [(0, 97)]⟩ }

/-- The encoder at the first row of 16 pixels, black 4..7. -/
def Tests.encoder : State := Tests.at (Tests.cfg .encodeG4 16 1 0 false [0x0F, 0x00]) .encodeMode

/-! ## Single steps: results from the spec's examples -/

/-- R174's example, first word: width 20, `WT5` leaves 5 pixels done and the colour black. -/
theorem test_wt5 :
    (Tests.nextOf (exec .wt5 (Tests.at (Tests.cfg .decodeG31D 20 1 0 false []) (.run .line1D 0 0)))).map
      (fun t => (t.cur, t.pos, t.color)) = some (4, 5, .black) := by decide +kernel
/-- R174's example, second word: `BT3` at pixel 5 paints pixels 5..7, the low bits of byte 0. -/
theorem test_bt3 :
    (Tests.nextOf (exec .bt3
      { Tests.at (Tests.cfg .decodeG31D 20 1 0 false []) (.run .line1D 5 0) with
        pos := 5
        color := .black })).map (fun t => (t.pos, t.out.cells)) = some (8, [(0, 0x07#8)]) := by decide +kernel
/-- R175: `WM64` in a line of 100 goes on in white with 64 pixels. -/
theorem test_wm64 :
    (Tests.nextOf (exec .wm64 Tests.line1D)).map (fun t => (t.cur, t.phase, t.color)) =
      some (5, .run .line1D 0 64, .white) := by decide +kernel
/-- R177's example: `BM192` in a line of 200 paints 24 bytes. -/
theorem test_bm192 :
    (Tests.nextOf (exec .bm192
      { Tests.at (Tests.cfg .decodeG31D 200 1 0 false []) (.run .line1D 0 0) with color := .black })).map
      (fun t => (t.cur, t.phase, t.out.cells.length, t.out.cells.read 23)) =
      some (12, .run .line1D 0 192, 24, 0xFF#8) := by decide +kernel
/-- R178: an extended makeup word is read in a black run too; past the width it raises `OverrunError` (R172). -/
theorem test_xm1792_overrun :
    (Tests.nextOf (exec .xm1792 { Tests.at (Tests.cfg .decodeG31D 20 1 0 false []) (.run .line1D 0 0) with
      color := .black })).map (fun t => (t.phase, t.result.map (fun r => r.status))) =
      some (.idle, some .overrunError) := by decide +kernel
/-- R243: an EOL with two fill bits moves the cursor by 14 in a job with `FILL_BITS`. -/
theorem test_eol_fill :
    (Tests.nextOf (exec (.eol 2) (Tests.at (Tests.cfg .decodeG31D 8 1 4 false []) .lineStart))).map
      (fun t => (t.cur, t.phase)) = some (14, .run .line1D 0 0) := by decide +kernel
/-- R151: an EOL in a run of a strict job is `PrematureEOL`. -/
theorem test_eol_in_run :
    (Tests.nextOf (exec (.eol 0) (Tests.at (Tests.cfg .decodeG31D 8 1 0 false []) (.run .line1D 0 0)))).map
      (fun t => t.result.map (fun r => (r.status, r.out))) = some (some (.prematureEOL, none)) := by decide +kernel
/-- R246: tag 1 starts a 1D line; R247: tag 0 without a valid reference line raises. -/
theorem test_tags :
    (Tests.nextOf (exec .tag1 (Tests.at (Tests.cfg .decodeG32D 8 1 1 false []) .tagBit))).map
        (fun t => (t.cur, t.phase)) = some (1, .run .line1D 0 0) ∧
      (Tests.nextOf (exec .tag0 (Tests.at (Tests.cfg .decodeG32D 8 1 1 false []) .tagBit))).map
        (fun t => t.result.map (fun r => r.status)) = some (some .missingReferenceLine) := by decide +kernel
/-- R206: with `Trans(ref) = [4, 8]`, `P` moves `a0` to 8 and keeps the colour. -/
theorem test_p :
    (Tests.nextOf (exec .p (Tests.g4 []))).map (fun t => (t.cur, t.a0, t.color)) = some (4, 8, .white) := by
  decide +kernel
/-- R207: `H` at line start begins its first run at pixel 0. -/
theorem test_h :
    (Tests.nextOf (exec .h (Tests.g4 []))).map (fun t => (t.cur, t.phase)) = some (3, .run .horizontal1 0 0) := by
  decide +kernel
/-- R209, R212, R213, R214: `b1 = 4`, so `VR1`, `VL1`, `VL2`, `VL3` set `a0` to 5, 3, 2, 1 and flip the colour. -/
theorem test_verticals :
    [Instr.vr1, .vl1, .vl2, .vl3].map
        (fun i => (Tests.nextOf (exec i (Tests.g4 []))).map (fun t => (t.a0, t.color))) =
      [some (5, .black), some (3, .black), some (2, .black), some (1, .black)] := by decide +kernel
/-- R210, R211, R208: `VR2` and `VR3` set 6 and 7, `V0` 4. -/
theorem test_verticals_right :
    [Instr.vr2, .vr3, .v0].map (fun i => (Tests.nextOf (exec i (Tests.g4 []))).map (fun t => (t.cur, t.a0))) =
      [some (6, 6), some (7, 7), some (1, 4)] := by decide +kernel
/-- R216: `EXT.U` at pixel 0. -/
theorem test_ext_u :
    (Tests.nextOf (exec .extU (Tests.g4 []))).map (fun t => (t.cur, t.pos, t.phase)) =
      some (10, 0, .uncompressed) := by decide +kernel
/-- R217, R219, R218: the invalid mode words end a strict job `MalformedCode`. -/
theorem test_invalid_modes :
    (Tests.nextOf (exec (.extRes 6#3) (Tests.g4 []))).map (fun t => t.result.map (fun r => r.status)) =
        some (some .malformedCode) ∧
      (Tests.nextOf (exec (.extG3 7#3) (Tests.at (Tests.cfg .decodeG32D 8 1 1 false []) .modeWord))).map
        (fun t => t.result.map (fun r => r.status)) = some (some .malformedCode) ∧
      (Tests.nextOf (exec (.modeInvalid true) (Tests.g4 []))).map (fun t => t.result.map (fun r => r.status)) =
        some (some .malformedCode) := by decide +kernel
/-- R223: `U.WB` at pixel 0 makes pixel 1 black; R227's example: `U.WWWWW` in a line of 4 overruns. -/
theorem test_image_words :
    (Tests.nextOf (exec .uWB { Tests.g4 [] with phase := .uncompressed })).map (fun t => (t.pos, t.out.cells)) =
        some (2, [(0, 0x40#8)]) ∧
      (Tests.nextOf (exec .uWWWWW (Tests.at (Tests.cfg .decodeG4 4 1 0 false []) .uncompressed))).map
        (fun t => t.result.map (fun r => r.status)) = some (some .overrunError) := by decide +kernel
/-- R231's example: `U.X3.T1` at pixel 0 leaves `a0 = 3`, colour black, 2D coding. -/
theorem test_exit_word :
    (Tests.nextOf (exec (.uX3 true) { Tests.g4 [] with phase := .uncompressed })).map
      (fun t => (t.cur, t.a0, t.color, t.phase)) = some (11, 3, .black, .modeWord) := by decide +kernel
/-- R309's example: after `a`, code 258 is `aa` and becomes entry 258. -/
theorem test_lzw_kwkwk :
    (Tests.nextOf (exec (.lzwKwkwk 258) Tests.lzw)).map (fun t => (t.lzwOut, t.lzwTab, t.lzwPrev)) =
      some (3, [(258, [97#8, 97#8])], some 258) := by decide +kernel
/-- R308: after `a`, code 98 outputs `b` and adds `ab`. -/
theorem test_lzw_entry :
    (Tests.nextOf (exec (.lzwEntry 98) Tests.lzw)).map (fun t => (t.out.cells, t.lzwTab)) =
      some ([(0, 97#8), (1, 98#8)], [(258, [97#8, 98#8])]) := by decide +kernel
/-- R306: the first code outputs its byte and adds nothing; R307: `CLR` forgets the previous code. -/
theorem test_lzw_first_and_clear :
    (Tests.nextOf (exec (.lzwFirst 65) { Tests.lzw with lzwPrev := none })).map
        (fun t => (t.cur, t.lzwNext, t.lzwPrev)) = some (9, 258, some 65) ∧
      (Tests.nextOf (exec .lzwClr Tests.lzw)).map (fun t => (t.cur, t.lzwPrev)) = some (9, none) := by
  decide +kernel
/-- R305: `END` ends the job `OK`; R310's example: code 300 with the table at 258 is `InvalidLZWSequence`. -/
theorem test_lzw_end_and_invalid :
    (Tests.nextOf (exec .lzwEnd Tests.lzw)).map (fun t => t.result.map (fun r => (r.status, r.out))) =
        some (some (.ok, some ⟨4, [(0, 97#8)]⟩)) ∧
      (Tests.nextOf (exec (.lzwInvalid 300) Tests.lzw)).map (fun t => t.result.map (fun r => (r.status, r.out))) =
        some (some (.invalidLZWSequence, none)) := by decide +kernel
/-- R311, R312: the add that makes the index 511 widens the code to 10 bits; the one that makes it 4095 resets. -/
theorem test_lzw_width_and_reset :
    (let t := ({ Tests.lzw with lzwNext := 510 } : State).addEntry 98 [1#8]; (t.lzwNext, t.lzwWidth)) = (511, 10) ∧
      (let t := ({ Tests.lzw with
          lzwNext := 4094
          lzwWidth := 12 } : State).addEntry 98 [1#8]; (t.lzwNext, t.lzwWidth, t.lzwPrev)) = (258, 9, none) := by
  decide +kernel
/-- R323: `10 01 01 FF` becomes `10 11 12 11`. -/
theorem test_unpredict :
    ((({ Tests.lzw with out := Buffer.ofBytes [0x10, 0x01, 0x01, 0xFF] } : State).unpredict).map
      (fun t => t.out.bytes)) = some [0x10#8, 0x11#8, 0x12#8, 0x11#8] := by decide +kernel
/-- R278's example: row black 4..7, all-white reference: `H` first, with 4 pixels of white to emit. -/
theorem test_encoder_h :
    Tests.encoder.fetch = .word .h ∧
      (Tests.nextOf (exec .h Tests.encoder)).map (fun t => (t.encBits, t.phase)) =
        some ([false, false, true], .encodeRun1 4 4 8) := by decide +kernel
/-- R281: a first run of 4 white pixels is `WT4` = `1011`; the second run of 4 follows. -/
theorem test_encoder_wt4 :
    (Tests.nextOf (exec .wt4 { Tests.encoder with phase := .encodeRun1 4 4 8 })).map
      (fun t => (t.encBits, t.phase)) = some ([true, false, true, true], .encodeRun2 4 8) := by decide +kernel
/-- R283: the words of 2623, 2624 and 1791 white pixels begin `XM2560`, `XM2560`, `WM1728`. -/
theorem test_run_choice :
    encoderRunWord .white 2623 = .xm2560 ∧ encoderRunWord .white 2624 = .xm2560 ∧
      encoderRunWord .white 1791 = .wm1728 ∧ encoderRunWord .black 63 = .bt63 := by decide +kernel
/-- R286: the end of block alone is `00 10 01`. -/
theorem test_eofb :
    (Tests.nextOf (exec .eofb (Tests.at (Tests.cfg .encodeG4 8 0 0 false []) .encodeEnd))).map
      (fun t => t.result.map (fun r => r.enc)) = some (some (some [0x00#8, 0x10#8, 0x01#8])) := by decide +kernel
/-- R342's example: width 8, one sample of one bit, height 2, input `AA`: the output is `AA 00`. -/
theorem test_copy_none :
    (Tests.nextOf (exec .jobCopyNone (State.reset.submit
      { Tests.cfg .copyNone 8 2 0 false [0xAA] with bitsPerSample := 1 }))).map
      (fun t => t.result.map (fun r => r.out)) = some (some (some ⟨2, [(0, 0xAA#8)]⟩)) := by decide +kernel
/-- R340: the other five jobs begin at their procedures. -/
theorem test_jobs_begin :
    (Tests.nextOf (exec .jobDecodeG31D (State.reset.submit (Tests.cfg .decodeG31D 8 1 0 false [])))).map
        (fun t => t.phase) = some .lineStart ∧
      (Tests.nextOf (exec .jobDecodeG32D (State.reset.submit (Tests.cfg .decodeG32D 8 1 1 false [])))).map
        (fun t => t.phase) = some .lineStart ∧
      (Tests.nextOf (exec .jobDecodeG4 (State.reset.submit (Tests.cfg .decodeG4 8 1 0 false [])))).map
        (fun t => t.phase) = some .modeWord ∧
      (Tests.nextOf (exec .jobDecodeLzw (State.reset.submit (Tests.cfg .decodeLzw 8 1 0 false [])))).map
        (fun t => t.phase) = some .lzw ∧
      (Tests.nextOf (exec .jobEncodeG4 (State.reset.submit (Tests.cfg .encodeG4 8 1 0 false [1])))).map
        (fun t => t.phase) = some .encodeMode := by decide +kernel
/-- R361: a width of 0, and `TWO_D` against the operation, are refused. -/
theorem test_precondition :
    (Tests.nextOf (exec .jobDecodeG4 (State.reset.submit (Tests.cfg .decodeG4 0 1 0 false [])))).map
        (fun t => t.result.map (fun r => r.status)) = some (some .preconditionViolation) ∧
      (Tests.nextOf (exec .jobDecodeG31D (State.reset.submit (Tests.cfg .decodeG31D 8 1 1 false [])))).map
        (fun t => t.result.map (fun r => r.status)) = some (some .preconditionViolation) := by decide +kernel

/-- R346: a submission displaces neither a pending job nor a running one (that it is refused is log 17). -/
theorem test_submitted_job_stays :
    ((State.reset.submit (Tests.cfg .decodeG4 8 1 0 false [1])).submit (Tests.cfg .copyNone 8 1 0 false [])).request =
        some (Tests.cfg .decodeG4 8 1 0 false [1]) ∧
      Tests.line1D.submit (Tests.cfg .copyNone 8 1 0 false []) = Tests.line1D := by decide +kernel

/-- R25: `HORIZONTAL` with 4-bit samples is refused by `DECODE_LZW` and by `COPY_NONE`, with 8-bit samples by
neither. -/
theorem test_predictor_samples :
    ∀ op ∈ [Op.decodeLzw, Op.copyNone],
      ({ Tests.cfg op 8 1 0 false [] with predictor := .horizontal, bitsPerSample := 4 } : JobConfig).valid
          State.reset.limits = false ∧
        ({ Tests.cfg op 8 1 0 false [] with predictor := .horizontal } : JobConfig).valid State.reset.limits = true := by
  decide +kernel

/-! ## Witnesses: for every statement with hypotheses, a state and operands that meet them all -/

theorem witness_DecodeInvertsEncode :
    (Space.run .black).admits .bm1728 = true ∧ (Space.lzw 12 4094 false).admits (.lzwEntry 4093) = true ∧
      (Space.mode true).admits (.modeInvalid false) = true ∧
      eolWord.isPrefixOf (padded (encode 0 (.modeInvalid false) ++ [true])) = false := by decide +kernel

theorem witness_DecodedWordIsAdmitted :
    (∀ width next fresh, Space.lzw 9 258 true = .lzw width next fresh →
      258 ≤ next ∧ width ≤ (bitsOf 9 256).length) ∧
      decode (.lzw 9 258 true) (bitsOf 9 256) = .word .lzwClr :=
  ⟨fun _ _ _ h => by cases h; decide, by decide +kernel⟩

theorem witness_RunSpaceInvalidPatterns :
    (bitsOf 13 0x10).length = 13 ∧ (bitsOf 8 0).isPrefixOf (bitsOf 13 0x10) = true ∧
      eolWord.isPrefixOf (bitsOf 13 0x10) = false ∧ (bitsOf 9 1).isPrefixOf (bitsOf 13 0x10) = true ∧
      (bitsOf 10 1).isPrefixOf (bitsOf 13 0x08) = true ∧ (bitsOf 11 1).isPrefixOf (bitsOf 13 0x04) = true ∧
      (bitsOf 12 0).isPrefixOf (bitsOf 13 0x01) = true := by decide +kernel

theorem witness_StepRunsDecodedWord :
    (Tests.g4 [0x80]).space = some (.mode true) ∧
      ¬((Tests.g4 [0x80]).phase = .lzw ∧ (Tests.g4 [0x80]).lzwStops = true) ∧
      decode (.mode true) (Tests.g4 [0x80]).window = .word .v0 ∧
      State.reset.phase = .idle ∧ State.reset.request = none ∧
      (State.reset.submit (Tests.cfg .decodeG4 8 1 0 false [])).request =
        some (Tests.cfg .decodeG4 8 1 0 false []) ∧
      Tests.encoder.phase = .encodeMode ∧ Tests.encoder.inputRow = some Tests.encoder.sourceRow ∧
      ({ Tests.encoder with phase := .encodeRun1 4 4 8 } : State).phase = .encodeRun1 4 4 8 ∧
      ({ Tests.encoder with phase := .encodeRun2 4 8 } : State).phase = .encodeRun2 4 8 ∧
      ({ Tests.encoder with phase := .encodeEnd } : State).phase = .encodeEnd := by decide +kernel

theorem witness_FetchedWordsWellFormed :
    Tests.lzw.Inv ∧ Tests.lzw.fetch = .word (.lzwKwkwk 258) := by decide +kernel

theorem witness_MemoryReadAfterWrite :
    Memory.wf [(3, 5#8), (7, 1#8)] = true := by decide

theorem witness_SetPixelChangesOneBit : Memory.wf [(0, 0x80#8)] = true ∧ 7 < 8 := by decide

theorem witness_PaintSetsItsPixels :
    (Tests.g4 []).out.wf = true ∧ 16 ≤ 8 * (Tests.g4 []).cfg.stride ∧
      ((Tests.g4 []).row + 1) * (Tests.g4 []).cfg.stride ≤ (Tests.g4 []).out.size := by decide +kernel

theorem witness_InBitReadsTheStream :
    8 * (Tests.g4 [0x35]).cfg.input.size ≤ 8 ∧ 7 < 8 * (Tests.g4 [0x35]).cfg.input.size ∧ (Tests.g4 [0x35]).fill ≠ 2 ∧
      ({ Tests.g4 [0x35] with fill := 2 } : State).fill = 2 := by decide +kernel

/-- R122's example: `35` with fill order 1 is `0 0 1 1 0 1 0 1`, with fill order 2 `1 0 1 0 1 1 0 0`. -/
theorem test_in_bit :
    (Tests.g4 [0x35]).bitsFrom 0 9 = [false, false, true, true, false, true, false, true, false] ∧
      ({ Tests.g4 [0x35] with fill := 2 } : State).bitsFrom 0 8 =
        [true, false, true, false, true, true, false, false] := by decide +kernel

theorem witness_CursorPeekReadRewind : 4 ≤ ({ Tests.g4 [0x35] with cur := 4 } : State).cur := by decide +kernel

theorem witness_TransAreChangingElements :
    Machine.trans (Tests.g4 []).ref = [4, 8] ∧ 1 < (Machine.trans (Tests.g4 []).ref).length := by decide +kernel

theorem witness_ReferencePositions :
    (Tests.g4 []).ref.length = (Tests.g4 []).cfg.width ∧ (Tests.g4 []).a0 < ((Tests.g4 []).cfg.width : Int) ∧
      ({ Tests.g4 [] with a0 := 15 } : State).a0 < ((Tests.g4 []).cfg.width : Int) := by decide +kernel

theorem witness_JobStartValues : (Tests.cfg .copyNone 8 1 0 false []).op ≠ .encodeG4 := by decide

theorem witness_ConfigurationIsChecked :
    (State.reset.submit (Tests.cfg .decodeG4 0 1 0 false [])).phase = .idle ∧
      (State.reset.submit (Tests.cfg .decodeG4 0 1 0 false [])).request =
        some (Tests.cfg .decodeG4 0 1 0 false []) ∧
      (Tests.cfg .decodeG4 0 1 0 false []).valid State.reset.limits = false ∧
      (Tests.cfg .decodeG4 1 0 0 false []).valid State.reset.limits = true := by decide +kernel

theorem witness_AcceptedJobsBegin :
    State.reset.phase = .idle ∧ (Tests.cfg .decodeG31D 1 1 0 false []).valid State.reset.limits = true ∧
      (Tests.cfg .decodeG32D 1 1 1 false []).valid State.reset.limits = true ∧
      (Tests.cfg .decodeG4 1 1 0 false []).valid State.reset.limits = true ∧
      (Tests.cfg .decodeLzw 1 0 0 false []).valid State.reset.limits = true ∧
      (Tests.cfg .encodeG4 1 1 0 false [0]).valid State.reset.limits = true ∧
      (Tests.cfg .encodeG4 1 0 0 false []).valid State.reset.limits = true := by decide +kernel

theorem witness_HeightZeroFaxJobs :
    (State.reset.submit (Tests.cfg .decodeG4 1 0 0 false [])).phase = .idle ∧
      (Tests.cfg .decodeG4 1 0 0 false []).valid State.reset.limits = true ∧ isFaxDecode .decodeG4 = true ∧
      (Tests.cfg .decodeG4 1 0 0 false []).height = 0 := by decide +kernel

theorem witness_CopyNoneCopies :
    (State.reset.submit (Tests.cfg .copyNone 1 1 0 false [7])).request = some (Tests.cfg .copyNone 1 1 0 false [7]) ∧
      (Tests.cfg .copyNone 1 1 0 false [7]).valid State.reset.limits = true := by decide +kernel

/-- A Group 3 row about to start, with and without `FILL_BITS`; the EOL of the input ends at its last bit. -/
theorem witness_EolOpensTheLine :
    (Tests.at (Tests.cfg .decodeG31D 8 1 0 false [0x00, 0x10]) .lineStart).phase = .lineStart ∧
      (Tests.at (Tests.cfg .decodeG31D 8 1 0 false [0x00, 0x10]) .lineStart).cfg.fillBits = false ∧
      (Tests.at (Tests.cfg .decodeG31D 8 1 0 false [0x00, 0x10]) .lineStart).bitsFrom 0 12 = eolWord ∧
      (Tests.at (Tests.cfg .decodeG31D 8 1 0 false [0x00, 0x20]) .lineStart).bitsFrom 0 12 ≠ eolWord ∧
      (Tests.at (Tests.cfg .decodeG31D 8 1 4 false [0x00, 0x01]) .lineStart).cfg.fillBits = true ∧
      (∀ j, j < 15 → (Tests.at (Tests.cfg .decodeG31D 8 1 4 false [0x00, 0x01]) .lineStart).inBit j = false) ∧
      (Tests.at (Tests.cfg .decodeG31D 8 1 4 false [0x00, 0x01]) .lineStart).inBit 15 = true ∧
      (∀ j, j < 10 → (Tests.at (Tests.cfg .decodeG31D 8 1 4 false [0x00, 0x20]) .lineStart).inBit j = false) ∧
      (Tests.at (Tests.cfg .decodeG31D 8 1 4 false [0x00, 0x20]) .lineStart).inBit 10 = true ∧
      (∀ p, p < 16 → (Tests.at (Tests.cfg .decodeG31D 8 1 4 false [0x00, 0x00]) .lineStart).inBit p = false) ∧
      (Tests.at (Tests.cfg .decodeG32D 8 1 1 false []) .lineStart).cfg.op = .decodeG32D := by decide +kernel

theorem witness_TagBitSelectsTheCoding :
    (Tests.at (Tests.cfg .decodeG32D 8 1 1 false [0x80]) .tagBit).phase = .tagBit ∧
      (Tests.at (Tests.cfg .decodeG32D 8 1 1 false []) .tagBit).refValid = false ∧
      (Tests.at (Tests.cfg .decodeG32D 8 1 1 false []) .tagBit).Inv ∧
      ({ Tests.at (Tests.cfg .decodeG32D 8 1 1 false []) .tagBit with refValid := true } : State).refValid = true := by
  decide +kernel

/-- A strict row 0, a tolerant row 0 and a tolerant last row whose EOL is missing. -/
theorem witness_MissingEolPolicy :
    (Tests.at (Tests.cfg .decodeG31D 8 2 0 false [0xFF]) .lineStart).Inv ∧
      (Tests.at (Tests.cfg .decodeG31D 8 2 0 false [0xFF]) .lineStart).fetch = .event .noEol ∧
      (Tests.at (Tests.cfg .decodeG31D 8 2 0 true [0xFF]) .lineStart).Inv ∧
      (Tests.at (Tests.cfg .decodeG31D 8 2 0 true [0xFF]) .lineStart).fetch = .event .noEol ∧
      ({ Tests.at (Tests.cfg .decodeG31D 8 2 0 true [0xFF]) .lineStart with row := 1 } : State).Inv ∧
      ({ Tests.at (Tests.cfg .decodeG31D 8 2 0 true [0xFF]) .lineStart with row := 1 } : State).fetch =
        .event .noEol := by decide +kernel

/-- An EOL at bit 3, found from bit 3, and none after it. -/
theorem witness_SearchFindsTheFirstEol :
    (Tests.at (Tests.cfg .decodeG31D 8 2 0 true [0xE0, 0x02]) .lineStart).searchEol 3 = some 3 ∧
      (Tests.at (Tests.cfg .decodeG31D 8 2 0 true [0xE0, 0x02]) .lineStart).searchEol 4 = none := by decide +kernel

theorem witness_RaiseFollowsThePolicy :
    Tests.line1D.out.wf = true ∧ (Tests.line1D.row + 1) * Tests.line1D.cfg.stride ≤ Tests.line1D.out.size ∧
      ({ Tests.line1D with row := 1 } : State).out.size = (1 + 1) * Tests.line1D.cfg.stride := by decide +kernel

theorem witness_EolInsideALineRaises :
    Tests.line1D.Inv ∧ Tests.line1D.phase = .run .line1D 0 0 ∧ (Tests.g4 [0x00, 0x10]).Inv ∧
      (Tests.g4 [0x00, 0x10]).phase = .modeWord ∧ (Tests.g4 [0x00, 0x10]).bitsFrom 0 12 = eolWord := by
  decide +kernel

/-- A look-ahead `000000001...`, and a cursor at the end of the data. -/
theorem witness_NoRunWordRaises :
    (Tests.at (Tests.cfg .decodeG31D 8 1 0 true [0x00, 0x80]) (.run .line1D 0 0)).Inv ∧
      eolWord.isPrefixOf ((Tests.at (Tests.cfg .decodeG31D 8 1 0 true [0x00, 0x80]) (.run .line1D 0 0)).peek 13) =
        false ∧
      (∀ i ∈ runWords .white, (encode 0 i).isPrefixOf
        ((Tests.at (Tests.cfg .decodeG31D 8 1 0 true [0x00, 0x80]) (.run .line1D 0 0)).peek 13) = false) ∧
      ({ Tests.line1D with cur := 16 } : State).Inv ∧ ({ Tests.line1D with cur := 16 } : State).inBits ≤ 16 := by
  decide +kernel

/-- `WM64` in a line of 100 and of exactly 64 pixels. -/
theorem witness_MakeupWordsContinueTheRun :
    Tests.line1D.Inv ∧ Instr.wm64.runEntry = some ⟨.white, 64, false⟩ ∧
      runSpaceHas .white (Tests.line1D.runColor .line1D) = true ∧ 0 + 0 + 64 ≤ Tests.line1D.cfg.width ∧
      (Tests.at (Tests.cfg .decodeG31D 64 1 0 true []) (.run .line1D 0 0)).Inv ∧
      0 + 0 + 64 ≤ (Tests.at (Tests.cfg .decodeG31D 64 1 0 true []) (.run .line1D 0 0)).cfg.width := by
  decide +kernel

/-- `WT15` inside the line and `WT16` at its end; in a horizontal mode, the first run and a second run to the end. -/
theorem witness_TerminatingWordsEndTheRun :
    (Tests.at (Tests.cfg .decodeG31D 16 1 0 true []) (.run .line1D 0 0)).Inv ∧
      Instr.wt15.runEntry = some ⟨.white, 15, true⟩ ∧ Instr.wt16.runEntry = some ⟨.white, 16, true⟩ ∧
      0 + 0 + 16 ≤ (Tests.at (Tests.cfg .decodeG31D 16 1 0 true []) (.run .line1D 0 0)).cfg.width ∧
      ({ Tests.g4 [] with phase := .run .horizontal1 0 0 } : State).Inv ∧
      ({ Tests.g4 [] with phase := .run .horizontal2 4 0 } : State).Inv ∧
      runSpaceHas .black ((Tests.g4 []).runColor .horizontal2) = true ∧
      Instr.bt12.runEntry = some ⟨.black, 12, true⟩ ∧ 4 + 0 + 12 ≤ (Tests.g4 []).cfg.width := by decide +kernel

theorem witness_RunWordsOverrun :
    (Tests.at (Tests.cfg .decodeG31D 16 1 0 true []) (.run .line1D 0 0)).Inv ∧
      Instr.wt17.runEntry = some ⟨.white, 17, true⟩ ∧
      (Tests.at (Tests.cfg .decodeG31D 16 1 0 true []) (.run .line1D 0 0)).cfg.width < 0 + 0 + 17 := by
  decide +kernel

/-- A pass mode to pixel 8, and one to the width. -/
theorem witness_PassMode :
    (Tests.g4 []).Inv ∧ (Tests.g4 []).phase = .modeWord ∧ (Tests.g4 []).b2 = 8 ∧
      ({ Tests.g4 [] with a0 := 8 } : State).Inv ∧ ({ Tests.g4 [] with a0 := 8 } : State).b2 = 16 := by
  decide +kernel

theorem witness_HorizontalModeBegins : (Tests.g4 []).phase = .modeWord := by decide +kernel

/-- `VR3` in range at `b1 = 4`; `VR1` at `b1 = 16` out of range, `VL1` with `a1 = w` in range. -/
theorem witness_VerticalModes :
    (Tests.g4 []).Inv ∧ (Instr.vr3, (3 : Int)) ∈ verticalModes ∧
      ((Tests.g4 []).a0 < ((Tests.g4 []).b1 : Int) + 3 ∧
        ((Tests.g4 []).b1 : Int) + 3 ≤ ((Tests.g4 []).cfg.width : Int)) ∧
      ({ Tests.g4 [] with a0 := 8 } : State).Inv ∧ (Instr.vr1, (1 : Int)) ∈ verticalModes ∧
      ¬(({ Tests.g4 [] with a0 := 8 } : State).a0 < (({ Tests.g4 [] with a0 := 8 } : State).b1 : Int) + 1 ∧
        (({ Tests.g4 [] with a0 := 8 } : State).b1 : Int) + 1 ≤ ((Tests.g4 []).cfg.width : Int)) ∧
      (({ Tests.g4 [] with a0 := 8 } : State).a0 < (({ Tests.g4 [] with a0 := 8 } : State).b1 : Int) + 0 ∧
        (({ Tests.g4 [] with a0 := 8 } : State).b1 : Int) + 0 ≤ ((Tests.g4 []).cfg.width : Int)) := by
  decide +kernel

theorem witness_InvalidModeWordsRaise :
    (Tests.g4 []).Inv ∧ (Tests.g4 []).cfg.op = .decodeG4 ∧ (6#3 ≠ 7#3) ∧
      (Tests.at (Tests.cfg .decodeG32D 8 1 1 true []) .modeWord).Inv ∧
      (Tests.at (Tests.cfg .decodeG32D 8 1 1 true []) .modeWord).cfg.op ≠ .decodeG4 := by decide +kernel

theorem witness_ExtensionEntersUncompressedMode :
    (Tests.g4 []).phase = .modeWord ∧ (Tests.g4 []).cfg.op = .decodeG4 := by decide +kernel

/-- `U.B` at the last pixel, in range, and `U.WB` there, out of range. -/
theorem witness_UncompressedImageWords :
    ({ Tests.g4 [] with
        phase := .uncompressed
        pos := 15 } : State).Inv ∧
      (Instr.uB, 0, 1) ∈ imageWords ∧ 15 + 0 + 1 ≤ (Tests.g4 []).cfg.width ∧
      (Instr.uWB, 1, 1) ∈ imageWords ∧ (Tests.g4 []).cfg.width < 15 + 1 + 1 := by decide +kernel

/-- `U.X2` to the end of the line, and one pixel too far. -/
theorem witness_UncompressedExitWords :
    ({ Tests.g4 [] with
        phase := .uncompressed
        pos := 14 } : State).Inv ∧
      (Instr.uX2 false, 2) ∈ exitWords false ∧ 14 + 2 ≤ (Tests.g4 []).cfg.width ∧
      (Instr.uX3 true, 3) ∈ exitWords true ∧ (Tests.g4 []).cfg.width < 14 + 3 := by decide +kernel

theorem witness_UncompressedElevenZeros :
    ({ Tests.g4 [0x00, 0x1F] with phase := .uncompressed } : State).Inv ∧
      (∀ j, j < 11 → (Tests.g4 [0x00, 0x1F]).inBit (0 + j) = false) ∧
      ({ Tests.g4 [] with phase := .uncompressed } : State).inBits ≤ 0 := by decide +kernel

/-- The loop with a code to read, with a full output, and with 8 bits left. -/
theorem witness_LzwLoopEnds :
    Tests.lzw.Inv ∧ Tests.lzw.phase = .lzw ∧ ({ Tests.lzw with lzwOut := 4 } : State).Inv ∧
      Tests.lzw.out.size ≤ 4 ∧ ({ Tests.lzw with cur := 16 } : State).Inv ∧
      Tests.lzw.inBits < 16 + Tests.lzw.lzwWidth := by decide +kernel

theorem witness_LzwClearResetsTheTable : Tests.lzw.phase = .lzw := by decide +kernel

theorem witness_LzwFirstDataCode :
    (Tests.at (Tests.cfg .decodeLzw 4 1 0 false []) .lzw).Inv ∧
      (Tests.at (Tests.cfg .decodeLzw 4 1 0 false []) .lzw).lzwPrev = none ∧ 255 ≤ 255 := by decide +kernel

theorem witness_LzwEntryCode :
    Tests.lzw.Inv ∧ Tests.lzw.lzwPrev = some 97 ∧ 255 < Tests.lzw.lzwNext ∧ 255 ≠ 256 ∧ 255 ≠ 257 := by
  decide +kernel

theorem witness_LzwKwkwkCode : Tests.lzw.Inv ∧ Tests.lzw.phase = .lzw ∧ Tests.lzw.lzwPrev = some 97 := by
  decide +kernel

theorem witness_LzwInvalidCode :
    Tests.lzw.phase = .lzw ∧ Tests.lzw.lzwNext < 259 ∧
      ({ Tests.lzw with lzwPrev := none } : State).lzwPrev = none := by decide +kernel

theorem witness_UnpredictReversesTheRows :
    Tests.lzw.out.wf = true ∧ Tests.lzw.cfg.op = .decodeLzw ∧ Tests.lzw.cfg.bitsPerSample = 8 ∧
      1 ≤ Tests.lzw.cfg.samplesPerPixel ∧ Tests.lzw.out.size = Tests.lzw.cfg.stride * Tests.lzw.cfg.height := by
  decide +kernel

/-- `10 01 01 FF` holds the differences of `10 11 12 11`. -/
theorem witness_UnpredictInvertsDifferencing :
    (Buffer.ofBytes [0x10, 0x01, 0x01, 0xFF]).wf = true ∧ (Buffer.ofBytes [0x10, 0x11, 0x12, 0x11]).wf = true ∧
      (∀ i, i < 4 → (Buffer.ofBytes [0x10, 0x01, 0x01, 0xFF]).cells.read (0 * 4 + i) =
        if i < 1 then (Buffer.ofBytes [0x10, 0x11, 0x12, 0x11]).cells.read (0 * 4 + i)
        else (Buffer.ofBytes [0x10, 0x11, 0x12, 0x11]).cells.read (0 * 4 + i) -
          (Buffer.ofBytes [0x10, 0x11, 0x12, 0x11]).cells.read (0 * 4 + i - 1)) := by decide +kernel

/-- A row that calls for `H`; with `b1, b2 = 1, 2` left of its first change, `P`; with `b1 = 4`, `V0`. -/
theorem witness_EncoderEmitsModeWords :
    Tests.encoder.Inv ∧ Tests.encoder.phase = .encodeMode ∧ Tests.encoder.encoderA1 Tests.encoder.sourceRow = 4 ∧
      Tests.encoder.b1 = 16 ∧ ¬Tests.encoder.b2 < 4 ∧
      ({ Tests.encoder with ref := [.white, .black] ++ List.replicate 14 .white } : State).Inv ∧
      ({ Tests.encoder with ref := [.white, .black] ++ List.replicate 14 .white } : State).b2 < 4 ∧
      ({ Tests.encoder with ref := List.replicate 4 .white ++ List.replicate 12 .black } : State).Inv ∧
      ({ Tests.encoder with ref := List.replicate 4 .white ++ List.replicate 12 .black } : State).b1 = 4 := by
  decide +kernel

theorem witness_EncoderEmitsRunWords :
    ({ Tests.encoder with phase := .encodeRun1 4 4 8 } : State).Inv ∧
      Instr.wt4.runEntry = some ⟨.white, 4, true⟩ ∧ .wt4 = encoderRunWord Tests.encoder.color 4 ∧
      ({ Tests.encoder with phase := .encodeRun2 4 8 } : State).Inv ∧
      Instr.bt4.runEntry = some ⟨.black, 4, true⟩ ∧ .bt4 = encoderRunWord (flipColor Tests.encoder.color) 4 ∧
      (Tests.at (Tests.cfg .encodeG4 72 1 0 false (List.replicate 9 0)) (.encodeRun1 64 64 72)).Inv ∧
      .wm64 = encoderRunWord .white 64 ∧
      (Tests.at (Tests.cfg .encodeG4 72 1 0 false (List.replicate 9 0)) (.encodeRun2 64 72)).Inv ∧
      .bm64 = encoderRunWord .black 64 := by decide +kernel

theorem witness_EndOfBlockEndsEncoding :
    (Tests.at (Tests.cfg .encodeG4 8 0 0 false []) .encodeEnd).phase = .encodeEnd := by decide +kernel

theorem witness_HeightZeroEncoding :
    (State.reset.submit (Tests.cfg .encodeG4 1 0 0 false [])).request = some (Tests.cfg .encodeG4 1 0 0 false []) ∧
      (Tests.cfg .encodeG4 1 0 0 false []).valid State.reset.limits = true := by decide +kernel

theorem witness_EveryStepCompletes : (Tests.g4 [0x80]).Inv ∧ State.reset.Inv := by decide +kernel

theorem witness_LegalStatesStayLegal :
    (Tests.at (Tests.cfg .decodeG32D 8 1 1 false [0x80]) .tagBit).Inv ∧
      ∃ t, step (Tests.at (Tests.cfg .decodeG32D 8 1 1 false [0x80]) .tagBit) = .next t :=
  ⟨by decide +kernel, _, rfl⟩

theorem witness_RunningJobIsUndisturbed :
    (Tests.at (Tests.cfg .decodeG32D 8 1 1 false [0x80]) .tagBit).phase ≠ .idle ∧
      ∃ t, step (Tests.at (Tests.cfg .decodeG32D 8 1 1 false [0x80]) .tagBit) = .next t ∧ t.phase ≠ .idle :=
  ⟨by decide, _, rfl, by decide⟩

/-- Jobs that end: the encoder's end of block, a Group 4 job `OK` at its last `V0`, a tolerant Group 3 job that falls
back at a missing EOL, a strict one that fails there, and a copy taken from the port. -/
theorem witness_ResultRecordShapes :
    ∀ e ∈ [(Tests.at (Tests.cfg .encodeG4 8 0 0 false []) .encodeEnd, Status.ok),
        (Tests.at (Tests.cfg .decodeG4 8 1 0 false [0x80]) .modeWord, Status.ok),
        (Tests.at (Tests.cfg .decodeG31D 8 2 0 true []) .lineStart, Status.fallbackRequested),
        (Tests.at (Tests.cfg .decodeG31D 8 2 0 false []) .lineStart, Status.malformedCode),
        (State.reset.submit (Tests.cfg .copyNone 1 1 0 false [0xAA]), Status.ok)],
      e.1.Inv ∧ (e.1.phase ≠ .idle ∨ e.1.request ≠ none) ∧
        (Tests.nextOf (step e.1)).map (fun t => (t.phase, t.result.map (fun r => r.status))) =
          some (.idle, some e.2) := by decide +kernel

/-- A fax job that ends: a tag bit 0 with no reference line, strict and tolerant. -/
theorem witness_FaxJobStatuses :
    (Tests.at (Tests.cfg .decodeG32D 8 1 1 false []) .tagBit).Inv ∧
      (∃ t, step (Tests.at (Tests.cfg .decodeG32D 8 1 1 false []) .tagBit) = .next t ∧ t.phase = .idle ∧
        t.result = some (errorResult .missingReferenceLine)) ∧
      (Tests.at (Tests.cfg .decodeG32D 8 1 1 true []) .tagBit).Inv ∧
      (∃ t r, step (Tests.at (Tests.cfg .decodeG32D 8 1 1 true []) .tagBit) = .next t ∧ t.phase = .idle ∧
        t.result = some r) :=
  ⟨by decide +kernel, ⟨_, rfl, rfl, rfl⟩, by decide +kernel, ⟨_, _, rfl, rfl, rfl⟩⟩

theorem witness_PaddingIsNeverWritten :
    (Tests.at (Tests.cfg .decodeG32D 5 1 1 false [0x80]) .tagBit).Inv ∧
      isFaxDecode (Tests.at (Tests.cfg .decodeG32D 5 1 1 false [0x80]) .tagBit).cfg.op = true ∧
      (Tests.at (Tests.cfg .decodeG32D 5 1 1 false [0x80]) .tagBit).paddingClear ∧
      ∃ t, step (Tests.at (Tests.cfg .decodeG32D 5 1 1 false [0x80]) .tagBit) = .next t ∧ t.phase ≠ .idle :=
  ⟨by decide +kernel, by decide, fun _ _ _ _ _ => by simp [Tests.at, State.jobStart, State.initTable, Tests.cfg,
    Buffer.zeros, Memory.pixel, Memory.read], _, rfl, by decide⟩

theorem witness_CursorStaysNearTheData :
    (Tests.at (Tests.cfg .decodeG32D 8 1 1 false [0x80]) .tagBit).Inv ∧
      (Tests.at (Tests.cfg .decodeG32D 8 1 1 false [0x80]) .tagBit).cursorNear ∧
      ∃ t, step (Tests.at (Tests.cfg .decodeG32D 8 1 1 false [0x80]) .tagBit) = .next t ∧ t.phase ≠ .idle :=
  ⟨by decide +kernel, ⟨by decide +kernel, fun _ => by decide +kernel⟩, _, rfl, by decide⟩

theorem witness_EveryJobEnds :
    (State.reset.submit (Tests.cfg .decodeG4 8 1 0 false [0x80])).Inv ∧
      (State.reset.submit (Tests.cfg .decodeG4 8 1 0 false [0x80])).phase = .idle ∧
      (State.reset.submit (Tests.cfg .decodeG4 8 1 0 false [0x80])).request ≠ none := by decide +kernel

theorem witness_EncodedImageDecodesBack :
    (State.reset.submit (Tests.cfg .encodeG4 16 1 0 false [0x0F, 0x00])).Inv ∧
      (Tests.cfg .encodeG4 16 1 0 false [0x0F, 0x00]).op = .encodeG4 ∧
      (Tests.cfg .encodeG4 16 1 0 false [0x0F, 0x00]).valid State.reset.limits = true := by decide +kernel
end

