-- ==== Sys2Proof/Proofs/ChangingElements.lean ====
section
/-!
PROOF of O12: the changing elements of a row (10_state.md R40). `transFrom prev x r` is described for every start `x`
and every pixel `prev` before it; in `prev :: r` the pixel before pixel `i` of `r` stands at `i`.
-/
namespace Sys2Proof.Machine

/-! ## The two colours -/

theorem eq_flipColor_of_ne {c prev : Color} (h : c ≠ prev) : c = flipColor prev := by
  cases prev with
  | white => cases c with
    | white => exact absurd rfl h
    | black => rfl
  | black => cases c with
    | white => rfl
    | black => exact absurd rfl h

@[simp] theorem flipColor_flipColor (c : Color) : flipColor (flipColor c) = c := by
  cases c <;> rfl

/-! ## The scan from any position -/

@[simp] theorem transFrom_nil (prev : Color) (x : Nat) : transFrom prev x [] = [] := rfl

theorem transFrom_cons_same (c : Color) (x : Nat) (r : Row) :
    transFrom c x (c :: r) = transFrom c (x + 1) r := if_pos rfl

theorem transFrom_cons_ne {c prev : Color} (h : c ≠ prev) (x : Nat) (r : Row) :
    transFrom prev x (c :: r) = x :: transFrom c (x + 1) r := if_neg h

theorem mem_transFrom_cons (c prev : Color) (x y : Nat) (r : Row) :
    y ∈ transFrom prev x (c :: r) ↔ (y = x ∧ c ≠ prev) ∨ y ∈ transFrom c (x + 1) r := by
  by_cases h : c = prev
  · subst h
    simp [transFrom_cons_same]
  · simp [transFrom_cons_ne h, h]

/-- Position `x + i` is listed exactly when pixel `i` differs from the pixel before it; nothing left of `x` is. -/
theorem mem_transFrom (prev : Color) (x y : Nat) (r : Row) :
    y ∈ transFrom prev x r ↔ ∃ i, y = x + i ∧ i < r.length ∧ r[i]? ≠ (prev :: r)[i]? := by
  induction r generalizing prev x with
  | nil => simp
  | cons c r ih =>
    rw [mem_transFrom_cons, ih]
    constructor
    · rintro (⟨rfl, hc⟩ | ⟨i, rfl, hi, hne⟩)
      · exact ⟨0, rfl, by simp, by simpa using hc⟩
      · exact ⟨i + 1, by omega, by simpa using hi, by simpa using hne⟩
    · rintro ⟨_ | i, rfl, hi, hne⟩
      · exact .inl ⟨rfl, by simpa using hne⟩
      · exact .inr ⟨i, by omega, by simpa using hi, by simpa using hne⟩

theorem le_of_mem_transFrom {prev : Color} {x y : Nat} {r : Row} (h : y ∈ transFrom prev x r) : x ≤ y := by
  obtain ⟨i, rfl, -⟩ := (mem_transFrom prev x y r).mp h
  exact Nat.le_add_right x i

theorem transFrom_pairwise_lt (prev : Color) (x : Nat) (r : Row) : (transFrom prev x r).Pairwise (· < ·) := by
  induction r generalizing prev x with
  | nil => exact .nil
  | cons c r ih =>
    by_cases h : c = prev
    · subst h
      rw [transFrom_cons_same]
      exact ih c (x + 1)
    · rw [transFrom_cons_ne h]
      exact .cons (fun _ hy => le_of_mem_transFrom hy) (ih c (x + 1))

/-- The colours alternate: the first element changes away from `prev`, the second back to it, and so on. -/
theorem transFrom_color {prev : Color} {x : Nat} {r : Row} {k y : Nat} (h : (transFrom prev x r)[k]? = some y) :
    ∃ i, y = x + i ∧ r[i]? = some (if k % 2 = 0 then flipColor prev else prev) := by
  induction r generalizing prev x k with
  | nil => simp at h
  | cons c r ih =>
    by_cases hc : c = prev
    · subst hc
      rw [transFrom_cons_same] at h
      obtain ⟨i, rfl, hi⟩ := ih h
      exact ⟨i + 1, by omega, by simpa using hi⟩
    · rw [transFrom_cons_ne hc] at h
      obtain rfl := eq_flipColor_of_ne hc
      cases k with
      | zero => exact ⟨0, by simpa using h.symm, by simp⟩
      | succ k =>
        obtain ⟨i, rfl, hi⟩ := ih (by simpa using h)
        refine ⟨i + 1, by omega, ?_⟩
        rw [List.getElem?_cons_succ, hi, flipColor_flipColor]
        rcases Nat.mod_two_eq_zero_or_one k with hk | hk
        · simp [hk, Nat.succ_mod_two_eq_one_iff.mpr hk]
        · simp [hk, Nat.succ_mod_two_eq_zero_iff.mpr hk]

/-! ## `Trans(r)` and the colour at a position -/

theorem mem_trans (r : Row) (x : Nat) :
    x ∈ trans r ↔ x < r.length ∧ r[x]? ≠ (if x = 0 then some .white else r[x - 1]?) := by
  have hbefore : (Color.white :: r)[x]? = if x = 0 then some .white else r[x - 1]? := by
    cases x <;> simp
  simp [trans, mem_transFrom, hbefore]

theorem trans_pairwise_lt (r : Row) : (trans r).Pairwise (· < ·) := transFrom_pairwise_lt .white 0 r

theorem lt_length_of_mem_trans {r : Row} {x : Nat} (h : x ∈ trans r) : x < r.length := ((mem_trans r x).mp h).1

/-- Black first: pixel -1 is white (R40). -/
theorem trans_color {r : Row} {k x : Nat} (h : (trans r)[k]? = some x) :
    r[x]? = some (if k % 2 = 0 then .black else .white) := by
  obtain ⟨i, hx, hi⟩ := transFrom_color h
  obtain rfl : x = i := by omega
  exact hi

theorem getElem?_eq_colorAt {r : Row} {x : Nat} (h : x < r.length) : r[x]? = some (colorAt r x) := by
  simp [colorAt, h]

/-- Settles O12, from the description of the scan at every start: membership, order and alternating colours. -/
theorem transAreChangingElements : Obligations.TransAreChangingElements := fun r =>
  ⟨mem_trans r, trans_pairwise_lt r, fun _ h => trans_color (List.getElem?_eq_getElem h),
    fun _ hx => getElem?_eq_colorAt (lt_length_of_mem_trans hx)⟩

end Sys2Proof.Machine
end

section
/-!
PROOF of O10 and O11: the bit cursor (40_bit_cursor.md). The flip of a byte exchanges bits `i` and `7 - i`; the bits
from any position and the value of any bit list are described once, and `Peek`, `Read` and `Rewind` follow.
-/
namespace Sys2Proof.Machine

/-! ## A bit of the stream -/

theorem getLsbD_reverse_byte (b : Byte) {i : Nat} (h : i < 8) : b.reverse.getLsbD i = b.getLsbD (7 - i) := by
  rw [BitVec.getLsbD_reverse, BitVec.getMsbD_eq_getLsbD, decide_eq_true h, Bool.true_and]

/-- Past the end the stream is zeros (R122). -/
theorem State.inBit_past_end {s : State} {p : Nat} (h : 8 * s.cfg.input.size ≤ p) : s.inBit p = false := if_pos h

/-- Inside the input the stream bit is the bit of the fetched byte, after the flip (R122). -/
theorem State.inBit_inside {s : State} {p : Nat} (h : p < 8 * s.cfg.input.size) :
    s.inBit p = (if s.fill = 2 then (s.cfg.input.cells.read (p / 8)).reverse
      else s.cfg.input.cells.read (p / 8)).getLsbD (7 - p % 8) := if_neg (Nat.not_le.mpr h)

theorem State.inBit_unflipped {s : State} {p : Nat} (h : p < 8 * s.cfg.input.size) (hf : s.fill ≠ 2) :
    s.inBit p = (s.cfg.input.cells.read (p / 8)).getLsbD (7 - p % 8) := by
  rw [State.inBit_inside h, if_neg hf]

/-- The flip and the most-significant-first extraction cancel (R122, R126). -/
theorem State.inBit_flipped {s : State} {p : Nat} (h : p < 8 * s.cfg.input.size) (hf : s.fill = 2) :
    s.inBit p = (s.cfg.input.cells.read (p / 8)).getLsbD (p % 8) := by
  have hbit : 7 - (7 - p % 8) = p % 8 := by omega
  rw [State.inBit_inside h, if_pos hf, getLsbD_reverse_byte _ (by omega), hbit]

/-- Settles O10: past the end, and inside it with and without the flip. -/
theorem inBitReadsTheStream : Obligations.InBitReadsTheStream :=
  ⟨fun _ _ => State.inBit_past_end, fun _ _ => State.inBit_unflipped, fun _ _ => State.inBit_flipped,
    fun b _ => getLsbD_reverse_byte b⟩

/-! ## A run of bits and its value -/

@[simp] theorem State.length_bitsFrom (s : State) (p n : Nat) : (s.bitsFrom p n).length = n := by
  simp [State.bitsFrom]

theorem State.getElem?_bitsFrom (s : State) (p : Nat) {n j : Nat} (h : j < n) :
    (s.bitsFrom p n)[j]? = some (s.inBit (p + j)) := by
  simp [State.bitsFrom, h]

@[simp] theorem State.length_peek (s : State) (n : Nat) : (s.peek n).length = n := s.length_bitsFrom s.cur n

@[simp] theorem bitsVal_nil : bitsVal [] = 0 := rfl

/-- The last bit of a list is its least significant one. -/
theorem bitsVal_concat (l : List Bool) (b : Bool) : bitsVal (l ++ [b]) = 2 * bitsVal l + b.toNat := by
  simp [bitsVal]

theorem bitsVal_lt (l : List Bool) : bitsVal l < 2 ^ l.length := by
  induction l using List.reverseRecOn with
  | nil => simp
  | append_singleton l b ih =>
    have hb : b.toNat ≤ 1 := Bool.toNat_le b
    rw [bitsVal_concat, List.length_append, List.length_singleton, Nat.pow_succ]
    omega

/-! ## `Peek`, `Read` and `Rewind` -/

@[simp] theorem State.readBits_fst (s : State) (n : Nat) : (s.readBits n).1 = bitsVal (s.peek n) := rfl

@[simp] theorem State.readBits_snd (s : State) (n : Nat) : (s.readBits n).2 = s.advanced n := rfl

theorem State.readBits_lt (s : State) (n : Nat) : (s.readBits n).1 < 2 ^ n := by
  simpa using bitsVal_lt (s.peek n)

theorem State.rewind_of_le {s : State} {n : Nat} (h : n ≤ s.cur) :
    s.rewind n = some { s with cur := s.cur - n } := if_pos h

/-- A rewind takes back a move of the same length (R125). -/
theorem State.rewind_advanced (s : State) (n : Nat) : (s.advanced n).rewind n = some s := by
  rw [State.rewind_of_le (Nat.le_add_left n s.cur), State.advanced_cur, Nat.add_sub_cancel]
  rfl

/-- Settles O11, from the bits at the cursor, the bound of their value and the rewind of a move. -/
theorem cursorPeekReadRewind : Obligations.CursorPeekReadRewind := fun s n =>
  ⟨s.length_peek n, fun _ => s.getElem?_bitsFrom s.cur, s.readBits_fst n, s.readBits_lt n, s.readBits_snd n,
    State.rewind_of_le, s.rewind_advanced n⟩

end Sys2Proof.Machine
end

section
/-!
PROOF of O13: the reference positions `b1` and `b2` (43_line_decoder_2d.md R201, R202). Each is the first element of a
strictly rising list that meets a condition, or the width; what such a search finds is said once.
-/
namespace Sys2Proof.Machine

/-! ## The first element of a rising list that meets a condition -/

/-- The element found meets the condition and no smaller one does; without one the default is taken. -/
theorem getD_find?_of_rising {l : List Nat} (hl : l.Pairwise (· < ·)) (p : Nat → Bool) (w : Nat) :
    ((l.find? p).getD w ∈ l ∧ p ((l.find? p).getD w) = true ∧ ∀ y ∈ l, p y = true → (l.find? p).getD w ≤ y) ∨
    ((l.find? p).getD w = w ∧ ∀ y ∈ l, p y = false) := by
  induction l with
  | nil => exact .inr ⟨rfl, by simp⟩
  | cons x l ih =>
    obtain ⟨hx, hl⟩ := List.pairwise_cons.mp hl
    cases hp : p x with
    | true =>
      rw [List.find?_cons_of_pos hp, Option.getD_some]
      refine .inl ⟨List.mem_cons_self, hp, fun y hy _ => ?_⟩
      rcases List.mem_cons.mp hy with rfl | hy
      · exact le_rfl
      · exact (hx y hy).le
    | false =>
      rw [List.find?_cons_of_neg (by simp [hp])]
      rcases ih hl with ⟨hmem, hfound, hmin⟩ | ⟨hdefault, hnone⟩
      · refine .inl ⟨List.mem_cons_of_mem x hmem, hfound, fun y hy hpy => ?_⟩
        rcases List.mem_cons.mp hy with rfl | hy
        · simp [hp] at hpy
        · exact hmin y hy hpy
      · exact .inr ⟨hdefault, List.forall_mem_cons.mpr ⟨hp, hnone⟩⟩

/-- `next(T, x)` on a rising list: the first element right of `x`, or `w` where no element is. -/
theorem nextElement_spec {l : List Nat} (hl : l.Pairwise (· < ·)) (x : Int) (w : Nat) :
    (nextElement l x w ∈ l ∧ x < (nextElement l x w : Int) ∧ ∀ y ∈ l, x < (y : Int) → nextElement l x w ≤ y) ∨
    (nextElement l x w = w ∧ ∀ y ∈ l, (y : Int) ≤ x) := by
  simpa only [nextElement, decide_eq_true_eq, decide_eq_false_iff_not, not_lt] using
    getD_find?_of_rising hl (fun y : Nat => decide (x < (y : Int))) w

/-! ## `b1` and `b2` -/

/-- `b1` is the first changing element right of `a0` to the other colour, or the width (R201). -/
theorem State.b1_spec (s : State) :
    ((s.b1 ∈ trans s.ref ∧ s.a0 < (s.b1 : Int) ∧ colorAt s.ref s.b1 ≠ s.color) ∧
      ∀ x ∈ trans s.ref, s.a0 < (x : Int) → colorAt s.ref x ≠ s.color → s.b1 ≤ x) ∨
    (s.b1 = s.cfg.width ∧ ∀ x ∈ trans s.ref, s.a0 < (x : Int) → colorAt s.ref x = s.color) := by
  rcases getD_find?_of_rising (trans_pairwise_lt s.ref)
      (fun x : Nat => decide (s.a0 < (x : Int)) && decide (colorAt s.ref x ≠ s.color)) s.cfg.width
    with ⟨hmem, hfound, hmin⟩ | ⟨hdefault, hnone⟩
  · simp only [Bool.and_eq_true, decide_eq_true_eq] at hfound hmin
    exact .inl ⟨⟨hmem, hfound⟩, fun x hx ha hc => hmin x hx ⟨ha, hc⟩⟩
  · exact .inr ⟨hdefault, by simpa using hnone⟩

/-- `b2` is the first changing element right of `b1`, or the width (R202). -/
theorem State.b2_spec (s : State) :
    ((s.b2 ∈ trans s.ref ∧ s.b1 < s.b2) ∧ ∀ x ∈ trans s.ref, s.b1 < x → s.b2 ≤ x) ∨
    (s.b2 = s.cfg.width ∧ ∀ x ∈ trans s.ref, x ≤ s.b1) := by
  rcases nextElement_spec (trans_pairwise_lt s.ref) s.b1 s.cfg.width with ⟨hmem, hlt, hmin⟩ | ⟨hdefault, hnone⟩
  · exact .inl ⟨⟨hmem, Int.ofNat_lt.mp hlt⟩, fun x hx h => hmin x hx (Int.ofNat_lt.mpr h)⟩
  · exact .inr ⟨hdefault, fun x hx => Int.ofNat_le.mp (hnone x hx)⟩

theorem State.a0_lt_b1 {s : State} (ha : s.a0 < (s.cfg.width : Int)) : s.a0 < (s.b1 : Int) := by
  rcases s.b1_spec with ⟨⟨-, hlt, -⟩, -⟩ | ⟨hw, -⟩
  · exact hlt
  · rwa [hw]

theorem State.b1_le_width {s : State} (hr : s.ref.length = s.cfg.width) : s.b1 ≤ s.cfg.width := by
  rcases s.b1_spec with ⟨⟨hmem, -⟩, -⟩ | ⟨hw, -⟩
  · exact hr ▸ (lt_length_of_mem_trans hmem).le
  · exact hw.le

theorem State.b2_le_width {s : State} (hr : s.ref.length = s.cfg.width) : s.b2 ≤ s.cfg.width := by
  rcases s.b2_spec with ⟨⟨hmem, -⟩, -⟩ | ⟨hw, -⟩
  · exact hr ▸ (lt_length_of_mem_trans hmem).le
  · exact hw.le

theorem State.b1_le_b2 {s : State} (hr : s.ref.length = s.cfg.width) : s.b1 ≤ s.b2 := by
  rcases s.b2_spec with ⟨⟨-, hlt⟩, -⟩ | ⟨hw, -⟩
  · exact hlt.le
  · exact hw ▸ State.b1_le_width hr

/-- Settles O13, from what the two searches find and the bounds that follow. -/
theorem referencePositions : Obligations.ReferencePositions := fun s =>
  ⟨s.b1_spec.imp And.left id,
    s.b1_spec.elim And.right fun ⟨_, hnone⟩ x hx ha hc => absurd (hnone x hx ha) hc,
    s.b2_spec.imp And.left id,
    s.b2_spec.elim And.right fun ⟨_, hnone⟩ x hx h => absurd (hnone x hx) (Nat.not_le.mpr h),
    fun hr ha => ⟨State.a0_lt_b1 ha, State.b1_le_b2 hr, State.b2_le_width hr,
      s.b2_spec.imp (fun ⟨⟨_, hlt⟩, _⟩ => hlt) And.left⟩⟩

end Sys2Proof.Machine
end

section
/-!
The buffer operations, said through reads (20_memory.md R61 to R65, 60_exceptions.md R366): what a byte or a pixel reads
after a write, a set pixel, a paint and a clear.
-/
namespace Sys2Proof.Machine

/-! ## A byte after a write and after a clear -/

theorem Memory.read_cons (m : Memory) (a b : Nat) (v : Byte) :
    Memory.read ((a, v) :: m) b = if b = a then v else m.read b := by
  simp only [Memory.read, eq_comm]

/-- Left of every listed address a memory reads 0. -/
theorem Memory.read_of_listed_above {m : Memory} {a : Nat} (h : ∀ c ∈ m, a < c.1) : m.read a = 0 := by
  induction m with
  | nil => rfl
  | cons c m ih =>
    obtain ⟨hc, hm⟩ := List.forall_mem_cons.mp h
    rw [Memory.read_cons, if_neg hc.ne, ih hm]

/-- Listing a byte, or leaving a zero byte out where nothing is listed, makes it read so. -/
theorem Memory.read_list_nonzero {m : Memory} {a : Nat} (h : m.read a = 0) (v : Byte) (b : Nat) :
    Memory.read (if v = 0 then m else (a, v) :: m) b = if b = a then v else m.read b := by
  by_cases hv : v = 0
  · rw [if_pos hv]
    by_cases hb : b = a
    · rw [if_pos hb, hb, h, hv]
    · rw [if_neg hb]
  · rw [if_neg hv, Memory.read_cons]

theorem Memory.read_write {m : Memory} (h : m.wf = true) (a : Nat) (v : Byte) (b : Nat) :
    (m.write a v).read b = if b = a then v else m.read b := by
  induction m with
  | nil => exact Memory.read_list_nonzero rfl v b
  | cons c m ih =>
    obtain ⟨x, w⟩ := c
    obtain ⟨-, hx, hm⟩ := Memory.wf_cons.1 h
    rcases lt_trichotomy a x with hax | rfl | hax
    · rw [Memory.write, if_pos hax]
      exact Memory.read_list_nonzero
        (Memory.read_of_listed_above (List.forall_mem_cons.mpr ⟨hax, fun c hc => hax.trans (hx c hc)⟩)) v b
    · rw [Memory.write, if_neg (lt_irrefl a), if_pos rfl,
        Memory.read_list_nonzero (Memory.read_of_listed_above hx), Memory.read_cons]
      split
      · rfl
      · rfl
    · rw [Memory.write, if_neg hax.not_gt, if_neg hax.ne', Memory.read_cons, ih hm, Memory.read_cons]
      by_cases hb : b = x
      · rw [if_pos hb, if_pos hb, if_neg (hb ▸ hax.ne)]
      · rw [if_neg hb, if_neg hb]

theorem Memory.clear_wf {m : Memory} (h : m.wf = true) (a n : Nat) : (m.clear a n).wf = true := by
  induction n generalizing a m with
  | zero => exact h
  | succ n ih => exact ih (Memory.write_wf h a 0) (a + 1)

theorem Memory.read_clear {m : Memory} (h : m.wf = true) (a n b : Nat) :
    (m.clear a n).read b = if a ≤ b ∧ b < a + n then 0 else m.read b := by
  induction n generalizing a m with
  | zero => rw [Memory.clear, if_neg (by omega)]
  | succ n ih =>
    rw [Memory.clear, ih (Memory.write_wf h a 0), Memory.read_write h]
    by_cases hb : b = a
    · rw [if_pos hb, ite_self, if_pos (by omega)]
    · rw [if_neg hb]
      exact if_congr (by omega) rfl rfl

/-- `ClearRow` clears the bytes of its row and no other (60_exceptions.md R366). -/
theorem Buffer.rowCleared_clear {a : Buffer} (h : a.wf = true) {stride k : Nat} (hk : (k + 1) * stride ≤ a.size) :
    a.RowCleared stride k { a with cells := a.cells.clear (k * stride) stride } := by
  have hg : Memory.Good a.size a.cells := Buffer.wf_iff.1 h
  have hend : k * stride + stride = (k + 1) * stride := (Nat.succ_mul k stride).symm
  refine ⟨rfl, Buffer.wf_iff.2 (Memory.clear_good stride hg (hend ▸ hk)), fun x h0 h1 => ?_, fun x hx => ?_⟩
  · rw [Memory.read_clear hg.1, if_pos (by omega)]
  · rw [Memory.read_clear hg.1, if_neg (by omega)]

/-! ## A pixel after a set pixel and after a paint -/

theorem pixelBit_lt (x : Nat) : pixelBit x < 8 := by
  unfold pixelBit
  omega

/-- Inside a row's stride a pixel is found by its address and its bit (20_memory.md R63). -/
theorem pixel_place_inj {stride j k x y : Nat} (hx : x < 8 * stride) (hy : y < 8 * stride) :
    (pixelAddr stride j y = pixelAddr stride k x ∧ pixelBit y = pixelBit x) ↔ j = k ∧ y = x := by
  constructor
  · rintro ⟨haddr, hbit⟩
    have hrow (n z : Nat) (hz : z < 8 * stride) : pixelAddr stride n z / stride = n := by
      rw [pixelAddr, Nat.add_comm, Nat.add_mul_div_right _ _ (by omega), Nat.div_eq_of_lt (by omega), Nat.zero_add]
    have hjk : j = k := by rw [← hrow j y hy, haddr, hrow k x hx]
    subst hjk
    simp only [pixelAddr, pixelBit] at haddr hbit
    omega
  · rintro ⟨rfl, rfl⟩
    exact ⟨rfl, rfl⟩

/-- A byte with one bit set to a colour. -/
theorem getLsbD_setBit (v : Byte) (c : Color) {p j : Nat} (hp : p < 8) (hj : j < 8) :
    ((v &&& ~~~(1#8 <<< p)) ||| (if colorBit c then 1#8 <<< p else 0)).getLsbD j =
      if j = p then colorBit c else v.getLsbD j := by
  have hmask : (1#8 <<< p).getLsbD j = decide (p = j) := by
    rw [← BitVec.twoPow_eq, BitVec.getLsbD_twoPow, decide_eq_true hp, Bool.true_and]
  rw [BitVec.getLsbD_or, BitVec.getLsbD_and, BitVec.getLsbD_not, hmask]
  by_cases hb : j = p
  · cases c <;> simp [colorBit, hb, hp]
  · have hother : (if colorBit c then 1#8 <<< p else 0).getLsbD j = false := by
      split
      · rw [hmask, decide_eq_false (Ne.symm hb)]
      · exact BitVec.getLsbD_zero
    rw [hother, if_neg hb, decide_eq_true hj, decide_eq_false (Ne.symm hb)]
    simp

/-- `SetPix` changes one bit of one byte (20_memory.md R64). -/
theorem Memory.getLsbD_setPixel {m : Memory} (h : m.wf = true) (stride k x : Nat) (c : Color) (a : Nat) {j : Nat}
    (hj : j < 8) :
    ((m.setPixel stride k x c).read a).getLsbD j =
      if a = pixelAddr stride k x ∧ j = pixelBit x then colorBit c else (m.read a).getLsbD j := by
  by_cases ha : a = pixelAddr stride k x
  · rw [Memory.setPixel, Memory.read_write h, if_pos ha, getLsbD_setBit _ c (pixelBit_lt x) hj, ha]
    simp only [true_and]
  · rw [Memory.setPixel, Memory.read_write h, if_neg ha, if_neg fun h => ha h.1]

theorem Memory.pixel_setPixel {m : Memory} (h : m.wf = true) {stride k x : Nat} (hx : x < 8 * stride) (c : Color)
    (j : Nat) {y : Nat} (hy : y < 8 * stride) :
    (m.setPixel stride k x c).pixel stride j y = if j = k ∧ y = x then c else m.pixel stride j y := by
  rw [Memory.pixel, Memory.getLsbD_setPixel h stride k x c _ (pixelBit_lt y)]
  by_cases hjy : j = k ∧ y = x
  · rw [if_pos ((pixel_place_inj hx hy).mpr hjy), if_pos hjy]
    cases c <;> rfl
  · rw [if_neg (mt (pixel_place_inj hx hy).mp hjy), if_neg hjy, Memory.pixel]

theorem Memory.setPixel_wf {m : Memory} (h : m.wf = true) (stride k x : Nat) (c : Color) :
    (m.setPixel stride k x c).wf = true := Memory.write_wf h _ _

/-- A painted pixel has the colour, every other pixel is as before (20_memory.md R65). -/
theorem Memory.pixel_paint {stride k n x : Nat} {m : Memory} (h : m.wf = true) (hx : x + n ≤ 8 * stride) (c : Color)
    (j : Nat) {y : Nat} (hy : y < 8 * stride) :
    (m.paint stride k c n x).pixel stride j y =
      if j = k ∧ x ≤ y ∧ y < x + n then c else m.pixel stride j y := by
  induction n generalizing x m with
  | zero => rw [Memory.paint, if_neg (by omega)]
  | succ n ih =>
    rw [Memory.paint, ih (Memory.setPixel_wf h stride k x c) (by omega), Memory.pixel_setPixel h (by omega) c j hy]
    by_cases hjy : j = k ∧ y = x
    · rw [if_pos hjy, ite_self, if_pos (by omega)]
    · rw [if_neg hjy]
      exact if_congr (by omega) rfl rfl

/-- A byte that holds none of the painted pixels is as before (20_memory.md R65). -/
theorem Memory.read_paint_of_ne {stride k n x : Nat} {m : Memory} (h : m.wf = true) (c : Color) {d : Nat}
    (hd : ∀ y, x ≤ y → y < x + n → pixelAddr stride k y ≠ d) : (m.paint stride k c n x).read d = m.read d := by
  induction n generalizing x m with
  | zero => rfl
  | succ n ih =>
    rw [Memory.paint, ih (Memory.setPixel_wf h stride k x c) fun y h0 h1 => hd y (by omega) (by omega),
      Memory.setPixel, Memory.read_write h, if_neg (hd x le_rfl (by omega)).symm]

/-! ## `Paint` on a buffer -/

/-- The last pixel of a row lies in a buffer that holds the row. -/
theorem pixelAddr_lt_of_row_fits {stride k x size : Nat} (hx : x < 8 * stride) (hk : (k + 1) * stride ≤ size) :
    pixelAddr stride k x < size := by
  rw [Nat.succ_mul] at hk
  simp only [pixelAddr]
  omega

/-- Painting an empty range changes nothing (20_memory.md R65). -/
theorem Buffer.painted_of_le {a : Buffer} (h : a.wf = true) {x0 x1 : Nat} (hx : x1 ≤ x0) (stride k : Nat) (c : Color) :
    a.Painted stride k x0 x1 c a :=
  ⟨rfl, h, fun _ h0 h1 => absurd (h0.trans_lt h1) (Nat.not_lt.mpr hx), fun _ _ _ _ => rfl, fun _ _ => rfl⟩

/-- Painting inside a row that the buffer holds sets its pixels and no other (20_memory.md R65). -/
theorem Buffer.painted_paint {a : Buffer} (h : a.wf = true) {stride k x0 x1 : Nat} (hx : x1 ≤ 8 * stride)
    (hk : (k + 1) * stride ≤ a.size) (c : Color) :
    a.Painted stride k x0 x1 c { a with cells := a.cells.paint stride k c (x1 - x0) x0 } := by
  have hg : Memory.Good a.size a.cells := Buffer.wf_iff.1 h
  rcases Nat.lt_or_ge x0 x1 with h01 | h01
  · have hend : x0 + (x1 - x0) = x1 := by omega
    refine ⟨rfl, Buffer.wf_iff.2 ?_, fun x h0 h1 => ?_, fun j x hx8 hother => ?_, fun d hd => ?_⟩
    · exact Memory.paint_good stride k c _ hg (.inr (pixelAddr_lt_of_row_fits (by omega) hk))
    · rw [Memory.pixel_paint hg.1 (by omega) c k (by omega), if_pos ⟨rfl, h0, by omega⟩]
    · rw [Memory.pixel_paint hg.1 (by omega) c j hx8, if_neg (by omega)]
    · exact Memory.read_paint_of_ne hg.1 c fun y h0 h1 => hd y h0 (by omega)
  · rw [Nat.sub_eq_zero_of_le h01]
    exact Buffer.painted_of_le h h01 stride k c

/-- `Paint` inside row `st.row` changes the output buffer alone, and there the row's pixels alone. -/
theorem State.paint_painted {s : State} (h : s.out.wf = true) {x1 : Nat} (hx : x1 ≤ 8 * s.cfg.stride)
    (hk : (s.row + 1) * s.cfg.stride ≤ s.out.size) (x0 : Nat) (c : Color) :
    ∃ b, s.paint x0 x1 c = some { s with out := b } ∧ s.out.Painted s.cfg.stride s.row x0 x1 c b :=
  ⟨_, State.paint_eq fun _ => pixelAddr_lt_of_row_fits (by omega) hk, Buffer.painted_paint h hx hk c⟩

end Sys2Proof.Machine
end

section
/-!
What the shared operations of the fax decoders leave, in the words of the statements: the end of a line and of a mode
(44_image_decode.md R240 to R253, 43_line_decoder_2d.md R205, R234), the search for an EOL and the raise of an error
(60_exceptions.md R364 to R368).
-/
namespace Sys2Proof.Machine

/-! ## The end of a line and of a mode -/

/-- The row read back at the end of a line is the decoded row. -/
theorem State.row_eq_decodedRow {s : State} (hk : (s.row + 1) * s.cfg.stride ≤ s.out.size) :
    s.out.row s.cfg.stride s.cfg.width s.row = some s.decodedRow := if_pos hk

theorem State.endLine_ends {s : State} (hk : (s.row + 1) * s.cfg.stride ≤ s.out.size) :
    ∃ t, s.endLine = .next t ∧ LineEnds s t := by
  refine ⟨(s.withReference s.decodedRow).afterRow, by rw [State.endLine, State.row_eq_decodedRow hk], ?_⟩
  rcases (s.withReference s.decodedRow).afterRow_cases with ⟨hrow, hop, heq⟩ | ⟨hrow, hop, heq⟩ | ⟨hrow, heq⟩
  · exact .inl ⟨hrow, hop, heq⟩
  · exact .inr (.inl ⟨hrow, hop, heq⟩)
  · exact .inr (.inr ⟨hrow, heq ▸ ⟨rfl, rfl, rfl, rfl⟩⟩)

theorem State.endMode_done {s : State} (hk : (s.row + 1) * s.cfg.stride ≤ s.out.size) :
    ∃ t, s.endMode = .next t ∧ ModeDone s t := by
  by_cases ha : s.a0 = (s.cfg.width : Int)
  · obtain ⟨t, ht, hends⟩ := State.endLine_ends hk
    exact ⟨t, by rw [State.endMode, if_pos ha, ht], .inr ⟨ha, hends⟩⟩
  · exact ⟨_, if_neg ha, .inl ⟨ha, rfl⟩⟩

/-! ## The search for the next EOL (44_image_decode.md R245) -/

theorem State.eolAt_iff {s : State} {q : Nat} : s.eolAt q = true ↔ s.bitsFrom q 12 = eolWord := beq_iff_eq

/-- The first EOL from `p` on stands at `p`, or is the first one from `p + 1` on. -/
theorem firstEol_step {s : State} {p q : Nat} :
    FirstEol s p q ↔ (q = p ∧ p + 12 ≤ s.inBits ∧ s.bitsFrom p 12 = eolWord) ∨
      (s.bitsFrom p 12 ≠ eolWord ∧ FirstEol s (p + 1) q) := by
  constructor
  · rintro ⟨hpq, hend, hword, hfirst⟩
    rcases hpq.eq_or_lt with rfl | hlt
    · exact .inl ⟨rfl, hend, hword⟩
    · exact .inr ⟨hfirst p le_rfl hlt, hlt, hend, hword, fun x hx => hfirst x (by omega)⟩
  · rintro (⟨rfl, hend, hword⟩ | ⟨hne, hpq, hend, hword, hfirst⟩)
    · exact ⟨le_rfl, hend, hword, fun x h0 h1 => absurd h1 (Nat.not_lt.mpr h0)⟩
    · refine ⟨by omega, hend, hword, fun x h0 h1 => ?_⟩
      rcases h0.eq_or_lt with rfl | h0
      · exact hne
      · exact hfirst x h0 h1

/-- No EOL lies inside the data where fewer than 12 bits are left. -/
theorem not_firstEol_of_end {s : State} {p q : Nat} (h : s.inBits < p + 12) : ¬FirstEol s p q :=
  fun ⟨hpq, hend, _⟩ => by omega

/-- The search finds the first EOL if its fuel reaches the end of the data. -/
theorem State.searchEolFrom_eq_some {s : State} {fuel p : Nat} (hf : s.inBits ≤ p + fuel) (q : Nat) :
    s.searchEolFrom fuel p = some q ↔ FirstEol s p q := by
  induction fuel generalizing p with
  | zero => simp [State.searchEolFrom, not_firstEol_of_end (show s.inBits < p + 12 by omega)]
  | succ fuel ih =>
    by_cases hend : p + 12 ≤ s.inBits
    · by_cases hword : s.bitsFrom p 12 = eolWord
      · rw [State.searchEolFrom, if_pos hend, if_pos (State.eolAt_iff.mpr hword), firstEol_step]
        simp [hend, hword, eq_comm]
      · rw [State.searchEolFrom, if_pos hend, if_neg (mt State.eolAt_iff.mp hword), ih (by omega), firstEol_step (p := p)]
        simp [hword]
    · simp [State.searchEolFrom, hend, not_firstEol_of_end (show s.inBits < p + 12 by omega)]

theorem State.searchEol_eq_some {s : State} {p q : Nat} : s.searchEol p = some q ↔ FirstEol s p q :=
  State.searchEolFrom_eq_some (by omega) q

theorem State.searchEol_eq_none {s : State} {p : Nat} : s.searchEol p = none ↔ ∀ q, ¬FirstEol s p q := by
  simp only [Option.eq_none_iff_forall_ne_some, ne_eq, State.searchEol_eq_some]

/-! ## The raise of an error -/

/-- After an EOL: the tag bit in `DECODE_G3_2D`, else the 1D line (44_image_decode.md R241, R242). -/
theorem State.afterEol_cases (s : State) :
    (s.cfg.op = .decodeG32D ∧ s.afterEol = { s with phase := .tagBit }) ∨
    (s.cfg.op ≠ .decodeG32D ∧ s.afterEol = s.start1D) := by
  by_cases hop : s.cfg.op = .decodeG32D
  · exact .inl ⟨hop, if_pos hop⟩
  · exact .inr ⟨hop, if_neg hop⟩

/-- The resumption of a Group 3 job (R367, R368). -/
theorem State.resumeFrom_resumes {s : State} (hop : s.cfg.op ≠ .decodeG4) (p : Nat) :
    Resumes s p (s.resumeFrom p) := by
  rcases s.resumeFrom_cases p with ⟨q, hq, hrow, heq⟩ | ⟨q, hq, hrow, heq⟩ | ⟨hq, heq⟩
  · refine .inl ⟨q, State.searchEol_eq_some.mp hq, ?_⟩
    rcases State.afterEol_cases { s with cur := q + 12, row := s.row + 1 } with ⟨h2d, hafter⟩ | ⟨h2d, hafter⟩
    · exact .inl ⟨hrow, h2d, heq.trans hafter⟩
    · exact .inr (.inl ⟨hrow, h2d, heq.trans hafter⟩)
  · have hresult : State.okResult { s with cur := q + 12 } =
        { status := .ok, out := some s.out, failures := s.failures, refOut := none, enc := none } := by
      simp [State.okResult, hop]
    refine .inl ⟨q, State.searchEol_eq_some.mp hq, .inr (.inr ⟨hrow, ?_⟩)⟩
    rw [heq, hresult]
    exact ⟨rfl, rfl, rfl, rfl⟩
  · exact .inr ⟨State.searchEol_eq_none.mp hq, heq ▸ ⟨rfl, rfl, rfl, rfl⟩⟩

/-- A raise completes where the row lies in the output buffer, and leaves what the policy says (R364 to R368). -/
theorem State.raise_raised {s : State} (h : s.out.wf = true) (hk : (s.row + 1) * s.cfg.stride ≤ s.out.size)
    (e : FaxError) : ∃ t, s.raise e = .next t ∧ Raised s e.status t := by
  obtain ⟨t, ht⟩ := State.raise_completes e fun _ => hk
  refine ⟨t, ht, ?_⟩
  rcases State.raise_next ht with ⟨hstrict, rfl⟩ | ⟨u, hu, htol, hop, rfl⟩ | ⟨u, hu, htol, hop, rfl⟩
  · exact .inl ⟨hstrict, rfl, rfl, rfl, rfl⟩
  · obtain ⟨-, rfl⟩ := State.clearRow_some hu
    exact .inr (.inl ⟨htol, hop, _, Buffer.rowCleared_clear h hk, rfl, rfl, rfl, rfl⟩)
  · obtain ⟨-, rfl⟩ := State.clearRow_some hu
    exact .inr (.inr ⟨htol, hop, _, s.freeCount + 1, Buffer.rowCleared_clear h hk,
      Config.cursorAfterRaise s.freeCount, State.resumeFrom_resumes (by exact hop) s.cur⟩)

end Sys2Proof.Machine
end

section
/-!
PROOF of O29, O31, O35 and O36: the mode words and the words of uncompressed mode (43_line_decoder_2d.md R206 to R215,
R228 to R233). At both positions the row being decoded lies in the output buffer, so a paint up to the width completes,
the end of the mode completes and so does a raise; each word is then one paint and the end of a mode, or a raise.
-/
namespace Sys2Proof.Machine

/-! ## A row ready to be painted -/

/-- The row being decoded lies in the canonical output buffer and its stride holds the width. -/
structure State.RowReady (s : State) : Prop where
  out_wf : s.out.wf = true
  row_fits : (s.row + 1) * s.cfg.stride ≤ s.out.size
  width_le : s.cfg.width ≤ 8 * s.cfg.stride

theorem JobConfig.stride_of_isFaxDecode {c : JobConfig} (h : isFaxDecode c.op = true) : c.stride = (c.width + 7) / 8 := by
  unfold JobConfig.stride
  cases hop : c.op with
  | decodeG31D | decodeG32D | decodeG4 => rfl
  | decodeLzw | copyNone | encodeG4 => simp [isFaxDecode, hop] at h

theorem State.decodingRow_iff {s : State} :
    s.decodingRow = true ↔ s.cfg.valid s.limits = true ∧ isFaxDecode s.cfg.op = true ∧ s.row < s.cfg.height ∧
      s.out.size = s.cfg.stride * s.cfg.height ∧ s.failures ≤ s.row ∧
      (s.cfg.op ≠ .decodeG4 ∨ s.refValid = true ∧ s.failures = 0) := by
  simp [State.decodingRow, and_assoc]

theorem State.rowReady_of_decodingRow {s : State} (hi : s.Inv) (h : s.decodingRow = true) : s.RowReady := by
  obtain ⟨hbuf, -⟩ := State.inv_iff.mp hi
  obtain ⟨-, hfax, hrow, hsize, -⟩ := State.decodingRow_iff.mp h
  have hstride := JobConfig.stride_of_isFaxDecode hfax
  refine ⟨?_, ?_, by omega⟩
  · simp only [State.buffersWf, Bool.and_eq_true] at hbuf
    obtain ⟨⟨⟨-, hout⟩, -⟩, -⟩ := hbuf
    exact hout
  · rw [hsize, Nat.mul_comm]
    exact Nat.mul_le_mul_left _ hrow

theorem State.a0Inside_iff {s : State} : s.a0Inside = true ↔ -1 ≤ s.a0 ∧ s.a0 < (s.cfg.width : Int) := by
  simp [State.a0Inside]

/-- What the invariant gives at a mode position. -/
theorem State.inv_modeWord {s : State} (hi : s.Inv) (hp : s.phase = .modeWord) :
    s.RowReady ∧ s.a0 < (s.cfg.width : Int) ∧ s.ref.length = s.cfg.width := by
  obtain ⟨-, -, hrange, -, hphase⟩ := State.inv_iff.mp hi
  obtain ⟨-, -, -, -, -, href, -⟩ := State.inRange_iff.mp hrange
  simp only [State.phaseLegal, hp, Bool.and_eq_true] at hphase
  obtain ⟨⟨hdec, -⟩, ha0⟩ := hphase
  exact ⟨State.rowReady_of_decodingRow hi hdec, (State.a0Inside_iff.mp ha0).2, href⟩

/-- What the invariant gives in uncompressed mode. -/
theorem State.inv_uncompressed {s : State} (hi : s.Inv) (hp : s.phase = .uncompressed) :
    s.RowReady ∧ s.pos ≤ s.cfg.width := by
  obtain ⟨-, -, hrange, -, hphase⟩ := State.inv_iff.mp hi
  obtain ⟨-, -, hpos, -⟩ := State.inRange_iff.mp hrange
  simp only [State.phaseLegal, hp, Bool.and_eq_true] at hphase
  obtain ⟨⟨⟨hdec, -⟩, -⟩, -⟩ := hphase
  exact ⟨State.rowReady_of_decodingRow hi hdec, hpos⟩

namespace State.RowReady

theorem paint {s : State} (h : s.RowReady) {x1 : Nat} (hx : x1 ≤ s.cfg.width) (x0 : Nat) (c : Color) :
    ∃ b, s.paint x0 x1 c = some { s with out := b } ∧ s.out.Painted s.cfg.stride s.row x0 x1 c b :=
  State.paint_painted h.out_wf (hx.trans h.width_le) h.row_fits x0 c

theorem raise {s : State} (h : s.RowReady) (e : FaxError) : ∃ t, s.raise e = .next t ∧ Raised s e.status t :=
  State.raise_raised h.out_wf h.row_fits e

/-- A mode that has painted its pixels and set registers other than the row and the configuration completes. -/
theorem endMode_of_painted {s u : State} (h : s.RowReady) {x0 x1 : Nat} {c : Color}
    (hb : s.out.Painted s.cfg.stride s.row x0 x1 c u.out) (hcfg : u.cfg = s.cfg) (hrow : u.row = s.row) :
    ∃ t, u.endMode = .next t ∧ ModeDone u t := by
  obtain ⟨hsize, -⟩ := hb
  exact State.endMode_done (by rw [hcfg, hrow, hsize]; exact h.row_fits)

end State.RowReady

/-! ## Mode words in a line decoder -/

/-- At a mode position a mode word has its meaning in the line decoder. -/
theorem State.atModeWord_of_modeWord {s : State} (hp : s.phase = .modeWord) (i : Instr) (dec : State → Out)
    (enc : Row → State → Out) : s.atModeWord i dec enc = dec s := by
  rw [State.atModeWord, hp]

theorem exec_p_modeWord {s : State} (hp : s.phase = .modeWord) : exec .p s = s.pass :=
  State.atModeWord_of_modeWord hp .p State.pass fun _ => State.emitPass

/-- `P` where its paint succeeds. -/
theorem State.pass_of_paint {s t : State} (h : s.paint s.a0p s.b2 s.color = some t) :
    s.pass = State.endMode { t.advanced 4 with a0 := (s.b2 : Int) } := by
  rw [State.pass, h]
  rfl

/-- Settles O29: the paint up to `b2`, which is at most the width, and the end of the mode. -/
theorem passMode : Obligations.PassMode := fun s hi hp => by
  obtain ⟨hready, -, href⟩ := State.inv_modeWord hi hp
  obtain ⟨b, hpaint, hb⟩ := hready.paint (State.b2_le_width href) s.a0p s.color
  obtain ⟨t, ht, hdone⟩ := hready.endMode_of_painted
    (u := { s with cur := s.cur + 4, out := b, a0 := (s.b2 : Int) }) hb rfl rfl
  exact ⟨b, t, hb, by rw [exec_p_modeWord hp, State.pass_of_paint hpaint]; exact ht, hdone⟩

/-- Each vertical mode executes `Vert(d)` with its own offset (R208 to R214). -/
theorem exec_vertical_modeWord {s : State} {i : Instr} {d : Int} (hp : s.phase = .modeWord)
    (h : (i, d) ∈ verticalModes) : exec i s = s.vertical i d := by
  have hexec : exec i s = s.verticalWordAt i d := by
    simp only [verticalModes, List.mem_cons, Prod.mk.injEq, List.not_mem_nil, or_false] at h
    rcases h with ⟨rfl, rfl⟩ | ⟨rfl, rfl⟩ | ⟨rfl, rfl⟩ | ⟨rfl, rfl⟩ | ⟨rfl, rfl⟩ | ⟨rfl, rfl⟩ | ⟨rfl, rfl⟩ <;> rfl
  rw [hexec, State.verticalWordAt, State.atModeWord_of_modeWord hp]

/-- `V0` is the vertical mode of offset 0. -/
theorem offset_of_v0 {d : Int} (h : (Instr.v0, d) ∈ verticalModes) : d = 0 := by
  simpa [verticalModes] using h

/-- `Vert(d)` in range, where its paint succeeds (R215). -/
theorem State.vertical_of_paint {s t : State} {i : Instr} {d : Int}
    (hr : s.a0 < (s.b1 : Int) + d ∧ (s.b1 : Int) + d ≤ (s.cfg.width : Int))
    (h : s.paint s.a0p ((s.b1 : Int) + d).toNat s.color = some t) :
    s.vertical i d =
      State.endMode (State.flipped { t.advanced (encode 0 i).length with a0 := (s.b1 : Int) + d }) := by
  rw [State.vertical, if_pos hr, h]

theorem State.vertical_of_out_of_range {s : State} {d : Int}
    (hr : ¬(s.a0 < (s.b1 : Int) + d ∧ (s.b1 : Int) + d ≤ (s.cfg.width : Int))) (i : Instr) :
    s.vertical i d = s.raise .overrunError := if_neg hr

/-- Settles O31: in range one paint and the end of the mode, else the raise; `b1` itself is always in range. -/
theorem verticalModes_paint_or_raise : Obligations.VerticalModes := fun s i d hi hp hmem => by
  obtain ⟨hready, ha0, href⟩ := State.inv_modeWord hi hp
  rw [exec_vertical_modeWord hp hmem]
  refine ⟨fun hr => ?_, fun hr => ⟨?_, ?_⟩⟩
  · obtain ⟨b, hpaint, hb⟩ := hready.paint (Int.toNat_le.mpr hr.2) s.a0p s.color
    obtain ⟨t, ht, hdone⟩ := hready.endMode_of_painted
      (u := { s with
        cur := s.cur + (encode 0 i).length, out := b, a0 := (s.b1 : Int) + d, color := flipColor s.color }) hb rfl rfl
    exact ⟨b, t, hb, by rw [State.vertical_of_paint hr hpaint]; exact ht, hdone⟩
  · rintro rfl
    obtain rfl := offset_of_v0 hmem
    have hb1 := State.b1_le_width href
    have hlt := State.a0_lt_b1 ha0
    exact hr (by omega)
  · rw [State.vertical_of_out_of_range hr]
    exact hready.raise .overrunError

/-! ## Words of uncompressed mode -/

/-- Each exit word writes its own number of white pixels (R228 to R232). -/
theorem exec_exitWord {i : Instr} {n : Nat} {tag : Bool} (h : (i, n) ∈ exitWords tag) (s : State) :
    exec i s = s.uncompressedExit i n tag := by
  simp only [exitWords, List.mem_cons, Prod.mk.injEq, List.not_mem_nil, or_false] at h
  rcases h with ⟨rfl, rfl⟩ | ⟨rfl, rfl⟩ | ⟨rfl, rfl⟩ | ⟨rfl, rfl⟩ | ⟨rfl, rfl⟩ <;> rfl

/-- `U.X0` writes no pixel. -/
theorem pixels_of_uX0 {n : Nat} {tag : Bool} (h : (Instr.uX0 tag, n) ∈ exitWords tag) : n = 0 := by
  simpa [exitWords] using h

/-- An exit word that fits, where its paint succeeds (R221). -/
theorem State.uncompressedExit_of_paint {s t : State} {i : Instr} {n : Nat} {tag : Bool}
    (hp : s.phase = .uncompressed) (hn : s.pos + n ≤ s.cfg.width) (h : s.paint s.pos (s.pos + n) .white = some t) :
    s.uncompressedExit i n tag =
      State.endMode { t.advanced (encode 0 i).length with
        pos := s.pos + n, color := tagColor tag, a0 := ((s.pos + n : Nat) : Int) } := by
  simp only [State.uncompressedExit, hp, if_neg (Nat.not_lt.mpr hn), h]

theorem State.uncompressedExit_of_overrun {s : State} {n : Nat} (hp : s.phase = .uncompressed)
    (hn : s.cfg.width < s.pos + n) (i : Instr) (tag : Bool) :
    s.uncompressedExit i n tag = s.raise .overrunError := by
  simp only [State.uncompressedExit, hp, if_pos hn]

/-- Settles O35: where the pixels fit one paint and the end of the mode, else the raise; no pixel always fits. -/
theorem uncompressedExitWords : Obligations.UncompressedExitWords := fun s i n tag hi hp hmem => by
  obtain ⟨hready, hpos⟩ := State.inv_uncompressed hi hp
  rw [exec_exitWord hmem]
  refine ⟨fun hn => ?_, fun hn => ⟨?_, ?_⟩⟩
  · obtain ⟨b, hpaint, hb⟩ := hready.paint hn s.pos .white
    obtain ⟨t, ht, hdone⟩ := hready.endMode_of_painted
      (u := { s with
        cur := s.cur + (encode 0 i).length, out := b, pos := s.pos + n, color := tagColor tag,
        a0 := ((s.pos + n : Nat) : Int) }) hb rfl rfl
    exact ⟨b, t, hb, by rw [State.uncompressedExit_of_paint hp hn hpaint]; exact ht, hdone⟩
  · rintro rfl
    obtain rfl := pixels_of_uX0 hmem
    omega
  · rw [State.uncompressedExit_of_overrun hp hn]
    exact hready.raise .overrunError

/-- A list that begins with `n` zeros has at least `n` leading zeros. -/
theorem le_leadingZeros {l : List Bool} {n : Nat} (h : ∀ j, j < n → l[j]? = some false) : n ≤ leadingZeros l := by
  induction l generalizing n with
  | nil => exact Nat.not_lt.mp fun hn => by simpa using h 0 hn
  | cons b l ih =>
    cases n with
    | zero => exact Nat.zero_le _
    | succ n =>
      obtain rfl : b = false := by simpa using h 0 n.succ_pos
      exact Nat.succ_le_succ (ih fun j hj => by simpa using h (j + 1) (Nat.succ_lt_succ hj))

/-- Eleven leading zeros begin no image or exit word (R233). -/
theorem decodeUncompressed_of_eleven_zeros {la : List Bool} (h : 11 ≤ leadingZeros la) :
    decodeUncompressed la = .uInvalid := by
  have hne (k : Nat) (hk : k < 11) : ¬leadingZeros la = k := by omega
  simp [decodeUncompressed, hne]

/-- In uncompressed mode the decoder looks at the 13 bits from the cursor on. -/
theorem State.fetch_uncompressed {s : State} (hp : s.phase = .uncompressed) :
    s.fetch = .word (decodeUncompressed (padded (s.peek 13))) := by
  simp [State.fetch, State.space, State.window, hp, decode, Fetched.ofDecoded]

theorem State.fetch_eleven_zeros {s : State} (hp : s.phase = .uncompressed)
    (h : ∀ j, j < 11 → s.inBit (s.cur + j) = false) : s.fetch = .word .uInvalid := by
  have hzeros : 11 ≤ leadingZeros (padded (s.peek 13)) := le_leadingZeros fun j hj => by
    rw [padded, List.getElem?_append_left (by rw [State.length_peek]; omega), State.peek,
      State.getElem?_bitsFrom s s.cur (by omega), h j hj]
  rw [State.fetch_uncompressed hp, decodeUncompressed_of_eleven_zeros hzeros]

theorem exec_uInvalid {s : State} (hp : s.phase = .uncompressed) : exec .uInvalid s = s.raise .malformedCode := by
  have hexec : exec .uInvalid s = execUInvalid s := rfl
  rw [hexec, execUInvalid, hp]

/-- Settles O36: eleven zeros are fetched as `U.INVALID`, the bits past the end are zeros, and the word raises. -/
theorem uncompressedElevenZeros : Obligations.UncompressedElevenZeros := fun s hi hp => by
  obtain ⟨hready, -⟩ := State.inv_uncompressed hi hp
  refine ⟨State.fetch_eleven_zeros hp, fun hend => State.fetch_eleven_zeros hp fun j _ => ?_, ?_⟩
  · exact State.inBit_past_end (hend.trans (Nat.le_add_right s.cur j))
  · rw [exec_uInvalid hp]
    exact hready.raise .malformedCode

end Sys2Proof.Machine
end

section
/-!
PROOF of O19, O20 and O22: the framing of Group 3 lines (44_image_decode.md R240 to R247). `ReadEOL` is decided by the
leading zeros of the data that is left, or by 12 bits where no fill is allowed; an EOL and a tag bit begin a line.
-/
namespace Sys2Proof.Machine

/-! ## `ReadEOL` on a list of bits (R243) -/

/-- The leading zeros end at the latest before a 1. -/
theorem leadingZeros_le {l : List Bool} {z : Nat} (h : l[z]? = some true) : leadingZeros l ≤ z := by
  induction l generalizing z with
  | nil => exact nomatch h
  | cons b l ih =>
    cases b with
    | true => exact Nat.zero_le z
    | false =>
      cases z with
      | zero => exact nomatch h
      | succ z => exact Nat.succ_le_succ (ih h)

theorem leadingZeros_eq {l : List Bool} {z : Nat} (hzeros : ∀ j, j < z → l[j]? = some false)
    (hone : l[z]? = some true) : leadingZeros l = z :=
  Nat.le_antisymm (leadingZeros_le hone) (le_leadingZeros hzeros)

/-- Without fill, 12 bits are an EOL exactly when they are the EOL word. -/
theorem decodeFrame_noFill {bits : List Bool} (h : bits.length = eolWord.length) :
    decodeFrame false bits = if bits = eolWord then .word (.eol 0) else .reject .noEol := by
  have hprefix : eolWord.isPrefixOf bits = true ↔ bits = eolWord := by
    rw [List.isPrefixOf_iff_prefix]
    exact ⟨fun hp => (hp.eq_of_length h.symm).symm, fun he => he ▸ List.prefix_rfl⟩
  simp [decodeFrame, hprefix]

/-- With fill, `z` zeros and a 1 are an EOL from eleven zeros on. -/
theorem decodeFrame_fill_of_one {bits : List Bool} {z : Nat} (hzeros : ∀ j, j < z → bits[j]? = some false)
    (hone : bits[z]? = some true) :
    decodeFrame true bits = if 11 ≤ z then .word (.eol (z - 11)) else .reject .noEol := by
  have hlength : z < bits.length := (List.getElem?_eq_some_iff.mp hone).1
  simp [decodeFrame, leadingZeros_eq hzeros hone, hlength]

/-- With fill, zeros alone are no EOL. -/
theorem decodeFrame_fill_of_zeros {bits : List Bool} (hzeros : ∀ j, j < bits.length → bits[j]? = some false) :
    decodeFrame true bits = .reject .noEol := by
  have hlength : ¬leadingZeros bits < bits.length := Nat.not_lt.mpr (le_leadingZeros hzeros)
  simp [decodeFrame, hlength]

/-! ## What a line start fetches (R243) -/

theorem State.fetch_lineStart {s : State} (hp : s.phase = .lineStart) :
    s.fetch = Fetched.ofDecoded (decodeFrame s.cfg.fillBits s.window) := by
  simp [State.fetch, State.space, hp, decode]

/-- Without `FILL_BITS` a line start looks at 12 bits. -/
theorem State.fetch_lineStart_noFill {s : State} (hp : s.phase = .lineStart) (hf : s.cfg.fillBits = false) :
    s.fetch = if s.bitsFrom s.cur 12 = eolWord then .word (.eol 0) else .event .noEol := by
  have hwindow : s.window = s.bitsFrom s.cur 12 := by simp [State.window, hp, hf, State.peek]
  rw [State.fetch_lineStart hp, hf, hwindow, decodeFrame_noFill (s.length_bitsFrom s.cur 12)]
  split <;> rfl

/-- With `FILL_BITS` a line start looks at all the data that is left. -/
theorem State.fetch_lineStart_fill {s : State} (hp : s.phase = .lineStart) (hf : s.cfg.fillBits = true) :
    s.fetch = Fetched.ofDecoded (decodeFrame true (s.bitsFrom s.cur (s.inBits - s.cur))) := by
  rw [State.fetch_lineStart hp, hf, State.window, hp, hf]
  rfl

theorem State.fetch_lineStart_of_one {s : State} {z : Nat} (hp : s.phase = .lineStart) (hf : s.cfg.fillBits = true)
    (hzeros : ∀ j, j < z → s.inBit (s.cur + j) = false) (hone : s.inBit (s.cur + z) = true)
    (hend : s.cur + z < s.inBits) :
    s.fetch = if 11 ≤ z then .word (.eol (z - 11)) else .event .noEol := by
  have hbit (j : Nat) (hj : j ≤ z) :
      (s.bitsFrom s.cur (s.inBits - s.cur))[j]? = some (s.inBit (s.cur + j)) :=
    s.getElem?_bitsFrom s.cur (by omega)
  rw [State.fetch_lineStart_fill hp hf,
    decodeFrame_fill_of_one (z := z) (fun j hj => by rw [hbit j hj.le, hzeros j hj]) (by rw [hbit z le_rfl, hone])]
  split <;> rfl

theorem State.fetch_lineStart_of_zeros {s : State} (hp : s.phase = .lineStart) (hf : s.cfg.fillBits = true)
    (hzeros : ∀ p, s.cur ≤ p → p < s.inBits → s.inBit p = false) : s.fetch = .event .noEol := by
  rw [State.fetch_lineStart_fill hp hf, decodeFrame_fill_of_zeros fun j hj => ?_]
  · rfl
  · rw [State.length_bitsFrom] at hj
    rw [State.getElem?_bitsFrom s s.cur hj, hzeros (s.cur + j) (by omega) (by omega)]

/-! ## The EOL that begins a line -/

theorem length_encode_eol (width fill : Nat) : (encode width (.eol fill)).length = fill + 12 := by
  have hword : encode width (.eol fill) = List.replicate fill false ++ eolWord := rfl
  have heol : eolWord.length = 12 := rfl
  rw [hword, List.length_append, List.length_replicate, heol]

/-- At a line start an allowed EOL is consumed, fill and all. -/
theorem exec_eol_lineStart {s : State} {fill : Nat} (hp : s.phase = .lineStart)
    (hfill : fill = 0 ∨ s.cfg.fillBits = true) : exec (.eol fill) s = .next (s.advanced (fill + 12)).afterEol := by
  have hexec : exec (.eol fill) s = execEol fill s := rfl
  rw [hexec, execEol, hp]
  simp only [if_pos hfill, length_encode_eol]

/-- Settles O19: the 12 bits without fill, the leading zeros with fill, and the line after the EOL. -/
theorem eolOpensTheLine : Obligations.EolOpensTheLine := by
  refine ⟨fun s hp hf => ?_, fun s hp hf => ⟨fun z hzeros hone hend => ?_, ?_⟩, fun s fill hp hfill => ?_⟩
  · rw [State.fetch_lineStart_noFill hp hf]
    exact ⟨fun hword => if_pos hword, fun hword => if_neg hword⟩
  · rw [State.fetch_lineStart_of_one hp hf hzeros hone hend]
    exact ⟨fun hz => if_pos hz, fun hz => if_neg (Nat.not_le.mpr hz)⟩
  · exact State.fetch_lineStart_of_zeros hp hf
  · rw [exec_eol_lineStart hp hfill]
    rcases (s.advanced (fill + 12)).afterEol_cases with ⟨hop, hafter⟩ | ⟨hop, hafter⟩
    · exact ⟨fun _ => hafter ▸ rfl, fun hne => absurd hop hne⟩
    · exact ⟨fun heq => absurd heq hop, fun _ => hafter ▸ rfl⟩

/-! ## The tag bit (R242, R246, R247) -/

/-- The first bit of the look-ahead is the bit at the cursor. -/
theorem State.headD_padded_peek (s : State) : (padded (s.peek 13)).headD false = s.inBit s.cur := rfl

/-- The tag bit is the bit at the cursor. -/
theorem State.fetch_tagBit {s : State} (hp : s.phase = .tagBit) :
    s.fetch = .word (if s.inBit s.cur = true then .tag1 else .tag0) := by
  rw [← s.headD_padded_peek]
  simp [State.fetch, State.space, State.window, hp, decode, Fetched.ofDecoded]

theorem exec_tag1_tagBit {s : State} (hp : s.phase = .tagBit) : exec .tag1 s = .next (s.advanced 1).start1D := by
  have hexec : exec .tag1 s = execTag1 s := rfl
  rw [hexec, execTag1, hp]
  rfl

theorem exec_tag0_tagBit {s : State} (hp : s.phase = .tagBit) :
    exec .tag0 s = if s.refValid then .next (s.advanced 1).start2D else s.raise .missingReferenceLine := by
  have hexec : exec .tag0 s = execTag0 s := rfl
  rw [hexec, execTag0, hp]
  rfl

/-- What the invariant gives at a tag bit. -/
theorem State.inv_tagBit {s : State} (hi : s.Inv) (hp : s.phase = .tagBit) : s.RowReady := by
  obtain ⟨-, -, -, -, hphase⟩ := State.inv_iff.mp hi
  simp only [State.phaseLegal, hp, Bool.and_eq_true] at hphase
  obtain ⟨hdec, -⟩ := hphase
  exact State.rowReady_of_decodingRow hi hdec

/-- Settles O20: the bit fetched, the two line starts, and the raise where no reference line is valid. -/
theorem tagBitSelectsTheCoding : Obligations.TagBitSelectsTheCoding := fun s hp => by
  refine ⟨State.fetch_tagBit hp, exec_tag1_tagBit hp, fun hvalid => ?_, fun hvalid hi => ?_⟩
  · rw [exec_tag0_tagBit hp, if_pos hvalid]
    rfl
  · rw [exec_tag0_tagBit hp, hvalid]
    exact (State.inv_tagBit hi hp).raise .missingReferenceLine

/-- Settles O22, from the search with fuel up to the end of the data. -/
theorem searchFindsTheFirstEol : Obligations.SearchFindsTheFirstEol := fun _ _ =>
  ⟨fun _ => State.searchEol_eq_some, State.searchEol_eq_none⟩

end Sys2Proof.Machine
end

section
/-!
PROOF of O46: the mode words of the encoder (45_fax_encoder.md R273 to R279). In a row of an encode job the input row
is there; the word fetched is the mode the encoder chooses, and the meaning of that word emits it.
-/
namespace Sys2Proof.Machine

/-! ## The row being encoded (R270) -/

/-- A row that lies inside the input is the source row. -/
theorem State.inputRow_eq_sourceRow {s : State} (hk : (s.row + 1) * s.cfg.stride ≤ s.cfg.input.size) :
    s.inputRow = some s.sourceRow := if_pos hk

/-- An accepted encode job has `S * height` bytes of input (60_exceptions.md R361). -/
theorem JobConfig.input_size_of_encode {c : JobConfig} {l : Limits} (h : c.valid l = true) (hop : c.op = .encodeG4) :
    c.input.size = c.stride * c.height := by
  simp only [JobConfig.valid, hop, Bool.and_eq_true, decide_eq_true_eq] at h
  obtain ⟨-, hsize⟩ := h
  rw [hsize, JobConfig.stride, hop]

theorem State.encodingRow_iff {s : State} :
    s.encodingRow = true ↔ s.cfg.valid s.limits = true ∧ s.cfg.op = .encodeG4 ∧ s.row < s.cfg.height := by
  simp [State.encodingRow, and_assoc]

theorem State.inputRow_of_encodingRow {s : State} (h : s.encodingRow = true) : s.inputRow = some s.sourceRow := by
  obtain ⟨hvalid, hop, hrow⟩ := State.encodingRow_iff.mp h
  apply State.inputRow_eq_sourceRow
  rw [JobConfig.input_size_of_encode hvalid hop, Nat.mul_comm]
  exact Nat.mul_le_mul_left _ hrow

/-- What the invariant gives at the encoder's mode choice. -/
theorem State.inv_encodeMode {s : State} (hi : s.Inv) (hp : s.phase = .encodeMode) :
    s.inputRow = some s.sourceRow := by
  obtain ⟨-, -, -, -, hphase⟩ := State.inv_iff.mp hi
  simp only [State.phaseLegal, hp, Bool.and_eq_true] at hphase
  obtain ⟨henc, -⟩ := hphase
  exact State.inputRow_of_encodingRow henc

@[simp] theorem State.length_sourceRow (s : State) : s.sourceRow.length = s.cfg.width := by
  simp [State.sourceRow]

/-- `a1` is a changing element of the row, or the width (R273). -/
theorem State.encoderA1_le_width (s : State) : s.encoderA1 s.sourceRow ≤ s.cfg.width := by
  rcases nextElement_spec (trans_pairwise_lt s.sourceRow) s.a0 s.cfg.width with ⟨hmem, -⟩ | ⟨hw, -⟩
  · exact s.length_sourceRow ▸ (lt_length_of_mem_trans hmem).le
  · exact hw.le

/-! ## The mode chosen (R275) -/

theorem State.encoderMode_of_pass {s : State} {r : Row} (h : s.b2 < s.encoderA1 r) : s.encoderMode r = .p := if_pos h

/-- The vertical words are those of their offsets, all within 3 (R277). -/
theorem verticalWord_of_mem {i : Instr} {d : Int} (h : (i, d) ∈ verticalModes) :
    verticalWord d = i ∧ -3 ≤ d ∧ d ≤ 3 := by
  simp only [verticalModes, List.mem_cons, Prod.mk.injEq, List.not_mem_nil, or_false] at h
  rcases h with ⟨rfl, rfl⟩ | ⟨rfl, rfl⟩ | ⟨rfl, rfl⟩ | ⟨rfl, rfl⟩ | ⟨rfl, rfl⟩ | ⟨rfl, rfl⟩ | ⟨rfl, rfl⟩ <;> decide

theorem State.encoderMode_of_vertical {s : State} {r : Row} {i : Instr} {d : Int} (hpass : ¬s.b2 < s.encoderA1 r)
    (hmem : (i, d) ∈ verticalModes) (hd : (s.encoderA1 r : Int) - (s.b1 : Int) = d) : s.encoderMode r = i := by
  obtain ⟨hword, hrange⟩ := verticalWord_of_mem hmem
  simp only [State.encoderMode, hd, if_neg hpass, if_pos hrange, hword]

theorem State.encoderMode_of_horizontal {s : State} {r : Row} (hpass : ¬s.b2 < s.encoderA1 r)
    (hd : (s.encoderA1 r : Int) - (s.b1 : Int) < -3 ∨ 3 < (s.encoderA1 r : Int) - (s.b1 : Int)) :
    s.encoderMode r = .h := by
  have hrange : ¬(-3 ≤ (s.encoderA1 r : Int) - (s.b1 : Int) ∧ (s.encoderA1 r : Int) - (s.b1 : Int) ≤ 3) := by omega
  simp only [State.encoderMode, if_neg hpass, if_neg hrange]

/-! ## The word fetched and its meaning -/

/-- At its mode choice the encoder fetches the mode of the row. -/
theorem State.fetch_encodeMode {s : State} {r : Row} (hp : s.phase = .encodeMode) (hr : s.inputRow = some r) :
    s.fetch = .word (s.encoderMode r) := by
  simp [State.fetch, State.space, hp, hr]

/-- The mode word chosen has its meaning in the encoder. -/
theorem State.atModeWord_of_encodeMode {s : State} {r : Row} {i : Instr} (hp : s.phase = .encodeMode)
    (hr : s.inputRow = some r) (hi : s.encoderMode r = i) (dec : State → Out) (enc : Row → State → Out) :
    s.atModeWord i dec enc = enc r s := by
  simp only [State.atModeWord, hp, hr, if_pos hi]

theorem exec_p_encodeMode {s : State} {r : Row} (hp : s.phase = .encodeMode) (hr : s.inputRow = some r)
    (hmode : s.encoderMode r = .p) : exec .p s = s.emitPass :=
  State.atModeWord_of_encodeMode hp hr hmode State.pass fun _ => State.emitPass

theorem exec_h_encodeMode {s : State} {r : Row} (hp : s.phase = .encodeMode) (hr : s.inputRow = some r)
    (hmode : s.encoderMode r = .h) : exec .h s = s.emitHorizontal r :=
  State.atModeWord_of_encodeMode hp hr hmode State.horizontal State.emitHorizontal

/-- Each vertical word is decoded or emitted with its own offset. -/
theorem exec_verticalWordAt {i : Instr} {d : Int} (h : (i, d) ∈ verticalModes) (s : State) :
    exec i s = s.verticalWordAt i d := by
  simp only [verticalModes, List.mem_cons, Prod.mk.injEq, List.not_mem_nil, or_false] at h
  rcases h with ⟨rfl, rfl⟩ | ⟨rfl, rfl⟩ | ⟨rfl, rfl⟩ | ⟨rfl, rfl⟩ | ⟨rfl, rfl⟩ | ⟨rfl, rfl⟩ | ⟨rfl, rfl⟩ <;> rfl

theorem exec_vertical_encodeMode {s : State} {r : Row} {i : Instr} {d : Int} (hp : s.phase = .encodeMode)
    (hr : s.inputRow = some r) (hmode : s.encoderMode r = i) (h : (i, d) ∈ verticalModes) :
    exec i s = s.emitVertical i r := by
  rw [exec_verticalWordAt h, State.verticalWordAt, State.atModeWord_of_encodeMode hp hr hmode]

/-! ## The end of a mode (R272, R279) -/

theorem State.endEncodeMode_of_inside {s : State} (h : s.a0 < (s.cfg.width : Int)) :
    s.endEncodeMode = .next { s with phase := .encodeMode } := if_pos h

/-- At the end of a row the source row becomes the reference line; the next row or the end of block follows. -/
theorem State.endEncodeMode_done {s : State} (hr : s.inputRow = some s.sourceRow) :
    ∃ t, s.endEncodeMode = .next t ∧ EncoderModeDone s t := by
  by_cases ha : s.a0 < (s.cfg.width : Int)
  · exact ⟨_, State.endEncodeMode_of_inside ha, .inl ⟨ha, rfl⟩⟩
  · by_cases hrow : s.row + 1 < s.cfg.height
    · refine ⟨State.startEncodeRow { s with ref := s.sourceRow, row := s.row + 1 }, ?_,
        .inr (.inl ⟨Int.not_lt.mp ha, hrow, rfl⟩)⟩
      simp only [State.endEncodeMode, if_neg ha, hr, if_pos hrow]
    · refine ⟨{ s with ref := s.sourceRow, phase := .encodeEnd }, ?_,
        .inr (.inr ⟨Int.not_lt.mp ha, Nat.not_lt.mp hrow, rfl⟩)⟩
      simp only [State.endEncodeMode, if_neg ha, hr, if_neg hrow]

/-- A pass leaves the row unfinished, because `b2 < a1 <= w` (R276). -/
theorem State.emitPass_of_inside {s : State} (h : s.b2 < s.cfg.width) :
    s.emitPass =
      .next { s with encBits := s.encBits ++ encode 0 .p, a0 := (s.b2 : Int), phase := .encodeMode } :=
  State.endEncodeMode_of_inside (s := { s.emit (encode 0 .p) with a0 := (s.b2 : Int) }) (Int.ofNat_lt.mpr h)

/-- Settles O46: the mode chosen in each of the three cases, the word fetched, and what its meaning emits. -/
theorem encoderEmitsModeWords : Obligations.EncoderEmitsModeWords := fun s hi hp => by
  have hr := State.inv_encodeMode hi hp
  rw [State.fetch_encodeMode hp hr]
  refine ⟨fun hpass => ?_, fun i d hpass hmem hd => ?_, fun hpass hd => ?_⟩
  · have hmode := State.encoderMode_of_pass hpass
    refine ⟨by rw [hmode], ?_⟩
    rw [exec_p_encodeMode hp hr hmode, State.emitPass_of_inside (hpass.trans_le s.encoderA1_le_width), ← hp]
    rfl
  · have hmode := State.encoderMode_of_vertical hpass hmem hd
    refine ⟨by rw [hmode], ?_⟩
    rw [exec_vertical_encodeMode hp hr hmode hmem]
    exact State.endEncodeMode_done
      (s := { s with
        encBits := s.encBits ++ encode 0 i, a0 := (s.encoderA1 s.sourceRow : Int), color := flipColor s.color }) hr
  · have hmode := State.encoderMode_of_horizontal hpass hd
    refine ⟨by rw [hmode], ?_⟩
    rw [exec_h_encodeMode hp hr hmode]
    rfl

end Sys2Proof.Machine
end

section
/-!
PROOF of O48: the run word the encoder chooses (45_fax_encoder.md R281, R282). The tables of run words are read off once
as arithmetic progressions of run lengths; the entry of the chosen word follows from the place it is taken from.
-/
namespace Sys2Proof.Machine

/-- The code space of a colour's own words. -/
def ownSpace : Color → RunSpace
  | .white => .white
  | .black => .black

theorem ownSpace_ne_shared (c : Color) : ownSpace c ≠ .shared := by
  cases c <;> exact nofun

theorem runSpaceHas_ownSpace (c : Color) : runSpaceHas (ownSpace c) c = true := by
  cases c <;> rfl

theorem runSpaceHas_shared (c : Color) : runSpaceHas .shared c = true := by
  cases c <;> rfl

/-- The entry of terminating word `n` of a colour (41_run_length_codes.md R141, R143). -/
def terminatingEntry (c : Color) (n : Nat) : RunEntry := ⟨ownSpace c, n, true⟩

/-- The entry of makeup word `k`, counted from 0: `64 * (k + 1)` pixels, the colour's own words first and the shared
ones from 1792 on (R142, R144, R145). -/
def makeupEntry (c : Color) (k : Nat) : RunEntry := ⟨if k < 27 then ownSpace c else .shared, 64 * (k + 1), false⟩

theorem terminatingWords_runEntry (c : Color) :
    (terminatingWords c).map Instr.runEntry = (List.range 64).map fun n => some (terminatingEntry c n) := by
  cases c <;> rfl

theorem makeupWords_runEntry (c : Color) :
    (makeupWords c).map Instr.runEntry = (List.range 40).map fun k => some (makeupEntry c k) := by
  cases c <;> rfl

/-- The value of a list's element at a place where the list of values is known. -/
theorem apply_getD_of_map_eq {α β : Type} {l : List α} {f : α → β} {g : Nat → β} {m k : Nat}
    (h : l.map f = (List.range m).map g) (hk : k < m) (d : α) : f (l.getD k d) = g k := by
  have hlen : l.length = m := by simpa using congrArg List.length h
  have hget : (l.map f)[k]? = ((List.range m).map g)[k]? := by rw [h]
  simpa [hlen, hk] using hget

/-! ## The word chosen, by the number of pixels left -/

theorem encoderRunWord_of_long {c : Color} {n : Nat} (h : 2624 ≤ n) : encoderRunWord c n = .xm2560 := if_pos h

theorem encoderRunWord_runEntry_of_makeup {c : Color} {n : Nat} (h : 64 ≤ n) (hn : n < 2624) :
    (encoderRunWord c n).runEntry = some (makeupEntry c (n / 64 - 1)) := by
  rw [encoderRunWord, if_neg (Nat.not_le.mpr hn), if_pos h]
  exact apply_getD_of_map_eq (makeupWords_runEntry c) (by omega) _

theorem encoderRunWord_runEntry_of_terminating {c : Color} {n : Nat} (h : n < 64) :
    (encoderRunWord c n).runEntry = some (terminatingEntry c n) := by
  rw [encoderRunWord, if_neg (by omega), if_neg (Nat.not_le.mpr h)]
  exact apply_getD_of_map_eq (terminatingWords_runEntry c) h _

theorem runSpaceHas_makeupEntry (c : Color) (k : Nat) : runSpaceHas (makeupEntry c k).space c = true := by
  by_cases hk : k < 27
  · simp only [makeupEntry, if_pos hk, runSpaceHas_ownSpace]
  · simp only [makeupEntry, if_neg hk, runSpaceHas_shared]

/-- A makeup word is shared exactly from 1792 pixels on. -/
theorem makeupEntry_shared_iff (c : Color) (k : Nat) :
    (makeupEntry c k).space = .shared ↔ 1792 ≤ (makeupEntry c k).run := by
  have hspace : (makeupEntry c k).space = .shared ↔ 27 ≤ k := by
    by_cases hk : k < 27
    · simpa only [makeupEntry, if_pos hk, Nat.not_le.mpr hk, iff_false] using ownSpace_ne_shared c
    · simpa only [makeupEntry, if_neg hk, true_iff] using Nat.not_lt.mp hk
  have hrun : (makeupEntry c k).run = 64 * (k + 1) := rfl
  rw [hspace, hrun]
  omega

/-- Settles O48: from 2624 pixels on, from 64 on, and below. -/
theorem runDecomposition : Obligations.RunDecomposition := fun c n => by
  rcases Nat.lt_or_ge n 64 with hterm | hmakeup
  · exact ⟨_, encoderRunWord_runEntry_of_terminating hterm, runSpaceHas_ownSpace c, fun hlong => by omega,
      fun hmakeup => by omega, fun _ => ⟨rfl, rfl, ownSpace_ne_shared c⟩⟩
  · rcases Nat.lt_or_ge n 2624 with hshort | hlong
    · have hrun : 64 * (n / 64 - 1 + 1) = 64 * (n / 64) := by omega
      exact ⟨_, encoderRunWord_runEntry_of_makeup hmakeup hshort, runSpaceHas_makeupEntry c _, fun hlong => by omega,
        fun _ _ => ⟨hrun, rfl, makeupEntry_shared_iff c _⟩, fun hterm => by omega⟩
    · have hword : encoderRunWord c n = .xm2560 := encoderRunWord_of_long hlong
      exact ⟨⟨.shared, 2560, false⟩, by rw [hword]; rfl, runSpaceHas_shared c, fun _ => ⟨hword, rfl, rfl⟩,
        fun _ hshort => by omega, fun hterm => by omega⟩

end Sys2Proof.Machine
end

section
/-!
PROOF of O49: the end of block of the encoder (45_fax_encoder.md R284, R285). A bit of the value of a bit list is a bit
of the list, counted from the other end; so each bit of a packed byte is a bit of the stream.
-/
namespace Sys2Proof.Machine

/-- The first bit of a list is the most significant one of its value. -/
theorem testBit_bitsVal {l : List Bool} {i : Nat} (h : i < l.length) :
    (bitsVal l).testBit (l.length - 1 - i) = l.getD i false := by
  induction l using List.reverseRecOn with
  | nil => exact absurd h (Nat.not_lt_zero i)
  | append_singleton l b ih =>
    rw [bitsVal_concat, List.length_append, List.length_singleton, Nat.add_sub_cancel]
    rw [List.length_append, List.length_singleton] at h
    rcases Nat.lt_or_ge i l.length with hi | hi
    · have hplace : l.length - i = l.length - 1 - i + 1 := by omega
      have hhalf : (2 * bitsVal l + b.toNat) / 2 = bitsVal l := by have hb := Bool.toNat_lt b; omega
      rw [hplace, Nat.testBit_succ, hhalf, ih hi, List.getD_append l [b] false i hi]
    · obtain rfl : i = l.length := by omega
      rw [Nat.sub_self, List.getD_append_right l [b] false _ hi, Nat.sub_self]
      cases b <;> simp [Nat.testBit_zero]

/-- Bit `7 - i` of byte `j` is bit `8 j + i` of the stream, a zero past its end (R285). -/
theorem getLsbD_packedByte (bits : List Bool) (j : Nat) {i : Nat} (h : i < 8) :
    (packedByte bits j).getLsbD (7 - i) = bits.getD (8 * j + i) false := by
  have hbit := testBit_bitsVal (l := (List.range 8).map fun i => bits.getD (8 * j + i) false) (i := i) (by simpa using h)
  rw [List.length_map, List.length_range] at hbit
  rw [packedByte, BitVec.getLsbD_ofNat, decide_eq_true (by omega : 7 - i < 8), Bool.true_and, hbit]
  simp [h]

/-- `Pack` packs (R285). -/
theorem packed_pack (bits : List Bool) : Packed bits (pack bits) := by
  refine ⟨by simp [pack], fun j hj i hi => ?_⟩
  have hbyte : (pack bits)[j] = packedByte bits j := by simp [pack]
  rw [hbyte, getLsbD_packedByte bits j hi]

theorem exec_eofb_encodeEnd {s : State} (hp : s.phase = .encodeEnd) :
    exec .eofb s =
      .next ((s.emit (encode 0 .eofb)).finish (encodeResult (pack (s.encBits ++ encode 0 .eofb)))) := by
  have hexec : exec .eofb s = execEofb s := rfl
  rw [hexec, execEofb, hp]
  rfl

/-- The encoder appends two EOL words (R284). -/
theorem append_encode_eofb (bits : List Bool) : bits ++ encode 0 .eofb = bits ++ eolWord ++ eolWord :=
  (List.append_assoc bits eolWord eolWord).symm

/-- Settles O49: the stream with its two EOL words, packed, is what the job returns. -/
theorem endOfBlockEndsEncoding : Obligations.EndOfBlockEndsEncoding := fun s hp =>
  ⟨_, _, exec_eofb_encodeEnd hp, append_encode_eofb s.encBits ▸ packed_pack _, rfl, rfl, rfl, rfl⟩

end Sys2Proof.Machine
end

section
/-!
PROOF of O44: the reversal of the predictor (46_lzw_decoder.md R320). A row is written from left to right, so where a
byte is written the byte `samplesPerPixel` places earlier has its final value; a row writes no byte of another row, so
the rows can be taken one by one.
-/
namespace Sys2Proof.Machine

/-! ## One row -/

theorem Memory.unpredictRow_wf {m : Memory} (h : m.wf = true) (spp n a : Nat) : (m.unpredictRow spp n a).wf = true := by
  induction n generalizing a m with
  | zero => exact h
  | succ n ih => exact ih (Memory.write_wf h a _) (a + 1)

/-- A row's reversal writes its own bytes alone. -/
theorem Memory.read_unpredictRow_outside {m : Memory} (h : m.wf = true) (spp : Nat) {n a b : Nat}
    (hb : b < a ∨ a + n ≤ b) : (m.unpredictRow spp n a).read b = m.read b := by
  induction n generalizing a m with
  | zero => rfl
  | succ n ih => rw [Memory.unpredictRow, ih (Memory.write_wf h a _) (by omega), Memory.read_write h, if_neg (by omega)]

/-- Each byte written is its old value plus the new byte `spp` places earlier (R320). -/
theorem Memory.read_unpredictRow_inside {m : Memory} (h : m.wf = true) {spp n a b : Nat} (hspp : 1 ≤ spp) (ha : spp ≤ a)
    (hab : a ≤ b) (hb : b < a + n) :
    (m.unpredictRow spp n a).read b = m.read b + (m.unpredictRow spp n a).read (b - spp) := by
  induction n generalizing a m with
  | zero => omega
  | succ n ih =>
    have hw := Memory.write_wf h a (m.read a + m.read (a - spp))
    rw [Memory.unpredictRow]
    rcases hab.eq_or_lt with rfl | hlt
    · rw [Memory.read_unpredictRow_outside hw spp (b := a) (by omega),
        Memory.read_unpredictRow_outside hw spp (b := a - spp) (by omega), Memory.read_write h, if_pos rfl,
        Memory.read_write h, if_neg (by omega)]
    · rw [ih hw (by omega) hlt (by omega), Memory.read_write h, if_neg hlt.ne']

/-! ## The rows of a buffer -/

/-- The reversal of the rows from `j` on writes nothing before row `j`. -/
theorem Memory.read_unpredictRows_before {m : Memory} (h : m.wf = true) {stride spp samples n j b : Nat}
    (hb : b < j * stride) : (m.unpredictRows stride spp samples n j).read b = m.read b := by
  induction n generalizing j m with
  | zero => rfl
  | succ n ih =>
    have hnext : j * stride ≤ (j + 1) * stride := Nat.mul_le_mul_right stride (Nat.le_succ j)
    rw [Memory.unpredictRows, ih (Memory.unpredictRow_wf h _ _ _) (hb.trans_le hnext),
      Memory.read_unpredictRow_outside h spp (by omega)]

/-- Every row `k` from `j` on is reversed: its first pixel stays, each later byte gets the new byte `spp` places earlier
added (R320). -/
theorem Memory.read_unpredictRows {m : Memory} (h : m.wf = true) {stride spp samples n j k i : Nat} (hspp : 1 ≤ spp)
    (hs : samples ≤ stride) (hjk : j ≤ k) (hk : k < j + n) (hi : i < samples) :
    (m.unpredictRows stride spp samples n j).read (k * stride + i) =
      if i < spp then m.read (k * stride + i)
      else m.read (k * stride + i) + (m.unpredictRows stride spp samples n j).read (k * stride + i - spp) := by
  induction n generalizing j m with
  | zero => omega
  | succ n ih =>
    have hw := Memory.unpredictRow_wf h spp (samples - spp) (j * stride + spp)
    have hnext : (j + 1) * stride = j * stride + stride := Nat.succ_mul j stride
    rw [Memory.unpredictRows]
    rcases hjk.eq_or_lt with rfl | hlt
    · rw [Memory.read_unpredictRows_before hw (by omega)]
      split
      · exact Memory.read_unpredictRow_outside h spp (by omega)
      · rw [Memory.read_unpredictRows_before hw (by omega)]
        exact Memory.read_unpredictRow_inside h hspp (by omega) (by omega) (by omega)
    · have hrow : (j + 1) * stride ≤ k * stride := Nat.mul_le_mul_right stride hlt
      rw [ih hw hlt (by omega), Memory.read_unpredictRow_outside h spp (b := k * stride + i) (by omega)]

/-! ## The whole buffer -/

/-- With 8-bit samples the stride of an LZW job is its samples per row (10_state.md R30). -/
theorem JobConfig.stride_of_lzw_bytes {c : JobConfig} (hop : c.op = .decodeLzw) (h8 : c.bitsPerSample = 8) :
    c.stride = c.width * c.samplesPerPixel := by
  have hstride : c.stride = (c.width * c.samplesPerPixel * c.bitsPerSample + 7) / 8 := by rw [JobConfig.stride, hop]
  rw [hstride, h8]
  omega

/-- Settles O44: the rows of the buffer, each reversed. -/
theorem unpredictReversesTheRows : Obligations.UnpredictReversesTheRows := fun s hw hop h8 hspp hsize => by
  have hstride := JobConfig.stride_of_lzw_bytes hop h8
  have hgood := Buffer.wf_iff.1 hw
  have hfits : s.cfg.width * s.cfg.samplesPerPixel ≤ s.cfg.stride ∧ s.cfg.stride * s.cfg.height ≤ s.out.size :=
    ⟨hstride.ge, hsize.ge⟩
  refine ⟨_, if_pos hfits, rfl, Buffer.wf_iff.2 (Memory.unpredictRows_good _ _ _ hstride.ge _ hgood (.inr ?_)),
    fun j i hj hi => ?_⟩
  · rw [Nat.zero_add, Nat.mul_comm]
    exact hsize.ge
  · exact Memory.read_unpredictRows hgood.1 hspp hstride.ge (Nat.zero_le j) (by omega) hi

end Sys2Proof.Machine
end

section
/-!
PROOF of O37, O38 and O40 to O42: the LZW codes (46_lzw_decoder.md R303 to R314). In the loop of a legal state the
output stays inside the buffer and every code below the next index, but for 256 and 257, names a string with a first
byte; each data code is then an output and an added entry.
-/
namespace Sys2Proof.Machine

/-! ## A byte after a store -/

theorem Memory.read_store {m : Memory} (h : m.wf = true) (a : Nat) (l : List Byte) (b : Nat) :
    (m.store a l).read b = if b < a then m.read b else l.getD (b - a) (m.read b) := by
  induction l generalizing a m with
  | nil => simp [Memory.store]
  | cons v l ih =>
    rw [Memory.store, ih (Memory.write_wf h a v), Memory.read_write h]
    rcases lt_trichotomy b a with hb | rfl | hb
    · rw [if_pos (by omega), if_neg hb.ne, if_pos hb]
    · simp
    · obtain ⟨k, rfl⟩ := Nat.exists_eq_add_of_lt hb
      rw [if_neg (by omega), if_neg (by omega), if_neg (by omega), show a + k + 1 - a = k + 1 by omega,
        show a + k + 1 - (a + 1) = k by omega, List.getD_cons_succ]

theorem Buffer.stored_store {a : Buffer} (h : a.wf = true) {d : Nat} {l : List Byte} (hd : d + l.length ≤ a.size) :
    a.Stored d l { a with cells := a.cells.store d l } := by
  have hg := Buffer.wf_iff.1 h
  refine ⟨rfl, Buffer.wf_iff.2 (Memory.store_good l hg hd), fun j hj => ?_, fun x hx => ?_⟩
  · rw [Memory.read_store hg.1, if_neg (by omega), Nat.add_sub_cancel_left, List.getD_eq_getElem l _ hj]
  · rw [Memory.read_store hg.1]
    split
    · rfl
    · exact List.getD_eq_default l _ (by omega)

/-! ## The output and the table -/

/-- `Output(w)` stores the bytes of `w` that fit (R313). -/
theorem State.lzwOutput_stored {s : State} (h : s.out.wf = true) (hout : s.lzwOut ≤ s.out.size) (w : List Byte) :
    ∃ b, s.out.Stored s.lzwOut (w.take (s.out.size - s.lzwOut)) b ∧
      s.lzwOutput w = { s with out := b, lzwOut := s.lzwOut + min w.length (s.out.size - s.lzwOut) } := by
  have hcut : w.take (min w.length (s.out.size - s.lzwOut)) = w.take (s.out.size - s.lzwOut) :=
    List.take_eq_take_iff.mpr (by omega)
  refine ⟨_, Buffer.stored_store h ?_, ?_⟩
  · rw [List.length_take]
    omega
  · rw [← hcut]
    rfl

/-- The width after an add is the width of the new index (R311). -/
theorem widthAfterAdd_lzwWidthAt (n : Nat) : widthAfterAdd (n + 1) (lzwWidthAt n) = lzwWidthAt (n + 1) := by
  unfold widthAfterAdd lzwWidthAt
  split_ifs <;> omega

theorem State.addEntry_added {s : State} (h : s.lzwWidth = lzwWidthAt s.lzwNext) (code : Nat) (new : List Byte) :
    EntryAdded s code new (s.addEntry code new) := by
  rcases s.addEntry_cases code new with ⟨hfull, heq⟩ | ⟨hroom, heq⟩
  · exact .inl ⟨hfull, heq⟩
  · rw [h, widthAfterAdd_lzwWidthAt] at heq
    exact .inr ⟨hroom, heq⟩

theorem LzwTable.mem_of_find {t : LzwTable} {i : Nat} {w : List Byte} (h : t.find i = some w) : (i, w) ∈ t := by
  induction t with
  | nil => cases h
  | cons e t ih =>
    obtain ⟨j, v⟩ := e
    by_cases hj : j = i
    · rw [LzwTable.find, if_pos hj, Option.some_inj] at h
      rw [hj, h]
      exact List.mem_cons_self
    · rw [LzwTable.find, if_neg hj] at h
      exact List.mem_cons_of_mem _ (ih h)

theorem LzwTable.not_listed_of_find {t : LzwTable} {i : Nat} (h : t.find i = none) : i ∉ t.map Prod.fst := by
  induction t with
  | nil => exact List.not_mem_nil
  | cons e t ih =>
    obtain ⟨j, v⟩ := e
    by_cases hj : j = i
    · rw [LzwTable.find, if_pos hj] at h
      cases h
    · rw [LzwTable.find, if_neg hj] at h
      exact List.not_mem_cons_of_ne_of_not_mem (Ne.symm hj) (ih h)

/-- What a legal string table gives: the indexes listed, no empty string, the width of R311, and a previous code that
names an entry (10_state.md R43). -/
theorem State.lzwTable_of_legal {s : State} (h : s.lzwLegal = true) :
    258 ≤ s.lzwNext ∧ s.lzwTab.map Prod.fst = List.range' 258 (s.lzwNext - 258) ∧ (∀ e ∈ s.lzwTab, e.2 ≠ []) ∧
      s.lzwWidth = lzwWidthAt s.lzwNext ∧
      ∀ prev, s.lzwPrev = some prev → prev < s.lzwNext ∧ prev ≠ 256 ∧ prev ≠ 257 := by
  simp only [State.lzwLegal, Bool.and_eq_true, decide_eq_true_eq, List.all_eq_true] at h
  obtain ⟨⟨⟨⟨⟨hnext, -⟩, hlisted⟩, hstrings⟩, hwidth⟩, hprev⟩ := h
  refine ⟨hnext, hlisted, fun e he => by simpa using hstrings e he, hwidth, fun prev hsome => ?_⟩
  simpa [hsome, and_assoc] using hprev

/-- In a legal table every code below the next index, but for the clear and the end code, names a string with a first
byte. -/
theorem State.lzwString_of_lt_next {s : State} (h : s.lzwLegal = true) {code : Nat} (hlt : code < s.lzwNext)
    (hclear : code ≠ 256) (hend : code ≠ 257) : ∃ f w, s.lzwTab.get code = some (f :: w) := by
  obtain ⟨hnext, hlisted, hstrings, -⟩ := State.lzwTable_of_legal h
  cases hfind : s.lzwTab.find code with
  | some v =>
    obtain ⟨f, w, rfl⟩ := List.exists_cons_of_ne_nil (hstrings _ (LzwTable.mem_of_find hfind))
    exact ⟨f, w, by rw [LzwTable.get, hfind]⟩
  | none =>
    have hbyte : code < 256 := by
      have hnot := LzwTable.not_listed_of_find hfind
      rw [hlisted, List.mem_range'_1] at hnot
      omega
    exact ⟨_, [], by rw [LzwTable.get, hfind]; exact if_pos hbyte⟩

/-- In a legal table the previous code names a string with a first byte. -/
theorem State.lzwString_of_prev {s : State} (h : s.lzwLegal = true) {prev : Nat} (hprev : s.lzwPrev = some prev) :
    ∃ f w, s.lzwTab.get prev = some (f :: w) := by
  obtain ⟨-, -, -, -, hbounds⟩ := State.lzwTable_of_legal h
  obtain ⟨hlt, hclear, hend⟩ := hbounds prev hprev
  exact State.lzwString_of_lt_next h hlt hclear hend

/-! ## The LZW loop -/

/-- In the LZW loop: an accepted LZW job whose canonical buffer has `S * height` bytes, those not yet written zero, and
a legal string table. -/
structure State.InLzwLoop (s : State) : Prop where
  valid : s.cfg.valid s.limits = true
  op_eq : s.cfg.op = .decodeLzw
  out_wf : s.out.wf = true
  out_size : s.out.size = s.cfg.stride * s.cfg.height
  lzwOut_le : s.lzwOut ≤ s.out.size
  rest_clear : ∀ a, s.lzwOut ≤ a → s.out.cells.read a = 0
  table_legal : s.lzwLegal = true

theorem State.inv_lzw {s : State} (hi : s.Inv) (hp : s.phase = .lzw) : s.InLzwLoop := by
  obtain ⟨hbuf, htable, hrange, hrest, hphase⟩ := State.inv_iff.mp hi
  obtain ⟨-, -, -, -, -, -, -, hlzwOut⟩ := State.inRange_iff.mp hrange
  simp only [State.buffersWf, Bool.and_eq_true] at hbuf
  obtain ⟨⟨⟨-, hout⟩, -⟩, -⟩ := hbuf
  simp only [State.phaseLegal, hp, Bool.and_eq_true, decide_eq_true_eq] at hphase
  obtain ⟨⟨hvalid, hop⟩, hsize⟩ := hphase
  have hclear := State.restClear_of_restUnlisted hrest
  rw [State.restClear, State.unwrittenFrom, hp] at hclear
  exact ⟨hvalid, hop, hout, hsize, hsize ▸ hlzwOut, hclear, htable⟩

/-- The loop's facts do not speak of the reader's position. -/
theorem State.InLzwLoop.advanced {s : State} (h : s.InLzwLoop) (n : Nat) : (s.advanced n).InLzwLoop :=
  ⟨h.valid, h.op_eq, h.out_wf, h.out_size, h.lzwOut_le, h.rest_clear, h.table_legal⟩

/-- An accepted LZW job has a sample per pixel, and 8-bit samples if it asks for the predictor (10_state.md R25). -/
theorem JobConfig.samples_of_lzw {c : JobConfig} {l : Limits} (h : c.valid l = true) (hop : c.op = .decodeLzw) :
    1 ≤ c.samplesPerPixel ∧ (c.predictor = .horizontal → c.bitsPerSample = 8) := by
  simp only [JobConfig.valid, hop, JobConfig.samplesLegal, Bool.and_eq_true, Bool.or_eq_true, decide_eq_true_eq] at h
  obtain ⟨-, ⟨hspp, -⟩, hpred⟩ := h
  exact ⟨hspp, fun hh => hpred.elim (fun hn => absurd (hh.symm.trans hn) (by decide)) (·.2)⟩

/-- Where the loop is left, the job ends with its buffer, the predictor reversed if the job asks for it (R304, R314). -/
theorem State.finishLzw_ends {s : State} (h : s.InLzwLoop) : ∃ t, s.finishLzw = .next t ∧ LzwEnds s t := by
  obtain ⟨hspp, h8⟩ := JobConfig.samples_of_lzw h.valid h.op_eq
  have hok (b : Buffer) : State.okResult { s with out := b } =
      { status := .ok, out := some b, failures := s.failures, refOut := none, enc := none } := by
    simp [State.okResult, h.op_eq]
  by_cases hpred : s.cfg.predictor = .horizontal
  · obtain ⟨b, hb, hrev⟩ := unpredictReversesTheRows s h.out_wf h.op_eq (h8 hpred) hspp h.out_size
    refine ⟨_, by rw [State.finishLzw, if_pos hpred, hb], b, ⟨h.rest_clear, fun _ => hrev, absurd hpred⟩, ?_⟩
    rw [hok b]
    exact ⟨rfl, rfl, rfl, rfl⟩
  · refine ⟨_, if_neg hpred, s.out, ⟨h.rest_clear, fun hh => absurd hh hpred, fun _ => rfl⟩, ?_⟩
    rw [hok s.out]
    exact ⟨rfl, rfl, rfl, rfl⟩

theorem State.lzwStops_iff {s : State} :
    s.lzwStops = true ↔ s.out.size ≤ s.lzwOut ∨ s.inBits < s.cur + s.lzwWidth := by
  rw [State.lzwStops, Bool.or_eq_true, decide_eq_true_eq, decide_eq_true_eq, State.cap]

/-- Where the output is full or no whole code is left, a step leaves the loop (R303, R313). -/
theorem State.step_of_lzwStops {s : State} (hp : s.phase = .lzw) (hstop : s.lzwStops = true) : step s = s.finishLzw := by
  have hfetch : s.fetch = .event .lzwStop := by
    rw [State.fetch, State.space, hp]
    exact if_pos ⟨rfl, hstop⟩
  exact step_event hfetch

/-! ## The codes -/

/-- In the loop a code is executed past its bits. -/
theorem State.atLzwCode_of_lzw {s : State} (hp : s.phase = .lzw) (body : State → Out) :
    s.atLzwCode body = body (s.advanced s.lzwWidth) := by
  rw [State.atLzwCode, hp]

theorem exec_lzwEnd_lzw {s : State} (hp : s.phase = .lzw) : exec .lzwEnd s = (s.advanced s.lzwWidth).finishLzw :=
  State.atLzwCode_of_lzw hp _

theorem exec_lzwClr_lzw {s : State} (hp : s.phase = .lzw) :
    exec .lzwClr s = .next (s.advanced s.lzwWidth).initTable :=
  State.atLzwCode_of_lzw hp fun t => .next t.initTable

theorem exec_lzwEntry_lzw {s : State} {code prev : Nat} {f : Byte} {w v : List Byte} (hp : s.phase = .lzw)
    (hprev : s.lzwPrev = some prev) (hcode : code < s.lzwNext ∧ code ≠ 256 ∧ code ≠ 257)
    (hw : s.lzwTab.get code = some (f :: w)) (hv : s.lzwTab.get prev = some v) :
    exec (.lzwEntry code) s =
      .next (((s.advanced s.lzwWidth).lzwOutput (f :: w)).addEntry code (v ++ [f])) := by
  have hexec : exec (.lzwEntry code) s = execLzwEntry code s := rfl
  rw [hexec, execLzwEntry, State.atLzwCode_of_lzw hp]
  simp only [State.advanced_lzwPrev, hprev, State.advanced_lzwTab, hw, hv]
  exact if_pos hcode

theorem exec_lzwKwkwk_lzw {s : State} {prev : Nat} {f : Byte} {v : List Byte} (hp : s.phase = .lzw)
    (hprev : s.lzwPrev = some prev) (hv : s.lzwTab.get prev = some (f :: v)) :
    exec (.lzwKwkwk s.lzwNext) s =
      .next (((s.advanced s.lzwWidth).lzwOutput (f :: v ++ [f])).addEntry s.lzwNext (f :: v ++ [f])) := by
  have hexec : exec (.lzwKwkwk s.lzwNext) s = execLzwKwkwk s.lzwNext s := rfl
  rw [hexec, execLzwKwkwk, State.atLzwCode_of_lzw hp]
  simp only [State.advanced_lzwPrev, hprev, State.advanced_lzwTab, hv]
  exact if_pos rfl

theorem exec_lzwInvalid_lzw {s : State} {code : Nat} (hp : s.phase = .lzw) (h258 : 258 ≤ code)
    (hbeyond : s.lzwPrev = none ∨ s.lzwNext < code) :
    exec (.lzwInvalid code) s =
      .next ((s.advanced s.lzwWidth).cursorOpen.finish (errorResult .invalidLZWSequence)) := by
  have hexec : exec (.lzwInvalid code) s = execLzwInvalid code s := rfl
  rw [hexec, execLzwInvalid, State.atLzwCode_of_lzw hp]
  exact if_pos ⟨h258, hbeyond⟩

/-- A data code in the loop outputs its string, cut at the end of the buffer, and adds its entry. -/
theorem State.InLzwLoop.output_added {s : State} (h : s.InLzwLoop) (w : List Byte) (code : Nat) (new : List Byte) :
    ∃ b, s.out.Stored s.lzwOut (w.take (s.out.size - s.lzwOut)) b ∧
      EntryAdded
        { s with
          out := b
          lzwOut := s.lzwOut + min w.length (s.out.size - s.lzwOut) } code new
        ((s.lzwOutput w).addEntry code new) := by
  obtain ⟨b, hb, heq⟩ := State.lzwOutput_stored h.out_wf h.lzwOut_le w
  obtain ⟨-, -, -, hwidth, -⟩ := State.lzwTable_of_legal h.table_legal
  rw [heq]
  exact ⟨b, hb, State.addEntry_added (by exact hwidth) code new⟩

/-- Settles O37: `END` and a stop both leave the loop. -/
theorem lzwLoopEnds : Obligations.LzwLoopEnds := fun s hi hp => by
  have hloop := State.inv_lzw hi hp
  refine ⟨?_, fun hstop => ?_⟩
  · rw [exec_lzwEnd_lzw hp]
    exact State.finishLzw_ends (hloop.advanced s.lzwWidth)
  · rw [State.step_of_lzwStops hp (State.lzwStops_iff.mpr hstop)]
    exact State.finishLzw_ends hloop

/-- Settles O38: the code is read and the table initialised. -/
theorem lzwClearResetsTheTable : Obligations.LzwClearResetsTheTable := fun _ hp => exec_lzwClr_lzw hp

/-- Settles O40: the strings of the code and of the previous one are in the table. -/
theorem lzwEntryCode : Obligations.LzwEntryCode := fun s code prev hi hp hprev hlt hclear hend => by
  have hloop := State.inv_lzw hi hp
  obtain ⟨f, w, hw⟩ := State.lzwString_of_lt_next hloop.table_legal hlt hclear hend
  obtain ⟨g, v, hv⟩ := State.lzwString_of_prev hloop.table_legal hprev
  obtain ⟨b, hb, hadded⟩ := (hloop.advanced s.lzwWidth).output_added (f :: w) code (g :: v ++ [f])
  exact ⟨f, w, g :: v, b, _, hw, hv, hb, exec_lzwEntry_lzw hp hprev ⟨hlt, hclear, hend⟩ hw hv, hadded⟩

/-- Settles O41: the string of the previous code is in the table, and it has a first byte. -/
theorem lzwKwkwkCode : Obligations.LzwKwkwkCode := fun s prev hi hp hprev => by
  have hloop := State.inv_lzw hi hp
  obtain ⟨f, v, hv⟩ := State.lzwString_of_prev hloop.table_legal hprev
  obtain ⟨b, hb, hadded⟩ := (hloop.advanced s.lzwWidth).output_added (f :: v ++ [f]) s.lzwNext (f :: v ++ [f])
  have hlength : (f :: v ++ [f]).length = v.length + 2 := by simp
  rw [hlength] at hadded
  exact ⟨f, v, b, _, hv, hb, exec_lzwKwkwk_lzw hp hprev hv, hadded⟩

/-- Settles O42: the job ends with the error's result, which names no buffer, whatever `cfg.tolerant` is. -/
theorem lzwInvalidCode : Obligations.LzwInvalidCode := fun _ _ hp h258 hbeyond =>
  ⟨_, exec_lzwInvalid_lzw hp h258 hbeyond, rfl, rfl, rfl, rfl⟩

end Sys2Proof.Machine
end

section
/-!
PROOF of O5: what a step runs (30_encoding.md section 5, 45_fax_encoder.md sections 2 to 5, 47_job_dispatch.md R340).
At each kind of position the instruction fetched is known, and the step executes it.
-/
namespace Sys2Proof.Machine

/-! ## The instruction fetched -/

/-- In a code space the word at the cursor is fetched, unless the LZW loop stops before it. -/
theorem State.fetch_of_decode {s : State} {sp : Space} {i : Instr} (hspace : s.space = some sp)
    (hgo : ¬(s.phase = .lzw ∧ s.lzwStops = true)) (hword : decode sp s.window = .word i) : s.fetch = .word i := by
  simp only [State.fetch, hspace, if_neg hgo, hword, Fetched.ofDecoded]

theorem State.fetch_idle_of_request {s : State} {c : JobConfig} (hp : s.phase = .idle) (hr : s.request = some c) :
    s.fetch = .word c.op.instr := by
  simp only [State.fetch, State.space, hp, hr]

theorem State.fetch_idle_waiting {s : State} (hp : s.phase = .idle) (hr : s.request = none) :
    s.fetch = .event .waiting := by
  simp only [State.fetch, State.space, hp, hr]

theorem State.fetch_encodeRun1 {s : State} {left a1 a2 : Nat} (hp : s.phase = .encodeRun1 left a1 a2) :
    s.fetch = .word (encoderRunWord s.color left) := by
  simp only [State.fetch, State.space, hp]

theorem State.fetch_encodeRun2 {s : State} {left a2 : Nat} (hp : s.phase = .encodeRun2 left a2) :
    s.fetch = .word (encoderRunWord (flipColor s.color) left) := by
  simp only [State.fetch, State.space, hp]

theorem State.fetch_encodeEnd {s : State} (hp : s.phase = .encodeEnd) : s.fetch = .word .eofb := by
  simp only [State.fetch, State.space, hp]

/-! ## The step -/

/-- An idle engine with nothing submitted waits in place (log 4). -/
theorem step_waiting {s : State} (hp : s.phase = .idle) (hr : s.request = none) : step s = .next s :=
  step_event (State.fetch_idle_waiting hp hr)

/-- Settles O5: at each position the step is the meaning of the instruction fetched there. -/
theorem stepRunsDecodedWord : Obligations.StepRunsDecodedWord :=
  ⟨fun _ _ _ hspace hgo hword => step_word (State.fetch_of_decode hspace hgo hword),
    fun _ _ hp hr => step_word (State.fetch_idle_of_request hp hr),
    fun _ hp hr => step_waiting hp hr,
    fun _ _ hp hr => step_word (State.fetch_encodeMode hp hr),
    fun _ _ _ _ hp => step_word (State.fetch_encodeRun1 hp),
    fun _ _ _ hp => step_word (State.fetch_encodeRun2 hp),
    fun _ hp => step_word (State.fetch_encodeEnd hp)⟩

end Sys2Proof.Machine
end

section
/-!
PROOF of O18: the pass-through copy (47_job_dispatch.md R342). The output buffer of a started job is all zero, so after
the copy every byte is the input's byte or 0.
-/
namespace Sys2Proof.Machine

/-! ## A job taken from the port (R340) -/

/-- An accepted job starts and its operation begins. -/
theorem State.takeJob_accepted {s : State} {c : JobConfig} (hp : s.phase = .idle) (hr : s.request = some c)
    (hvalid : c.valid s.limits = true) (begin : State → State) :
    s.takeJob c.op begin = .next (begin (s.jobStart c)) := by
  simp only [State.takeJob, hp, hr, if_pos hvalid, if_true]

/-- The output buffer a decode job starts with (70_reset_and_hazards.md R400). -/
theorem State.jobStart_out {s : State} {c : JobConfig} (hop : c.op ≠ .encodeG4) :
    (s.jobStart c).out = Buffer.zeros (c.stride * c.height) := if_neg hop

/-! ## The copy -/

/-- The cells of a zeroed buffer of `n` bytes after the copy of as much of the input as fits (R342). -/
def Buffer.copied (input : Buffer) (n : Nat) : Buffer :=
  ⟨n, Memory.store [] 0 ((List.range (min input.size n)).map input.cells.read)⟩

theorem Buffer.copied_wf (input : Buffer) (n : Nat) : (input.copied n).wf = true := by
  refine Buffer.wf_iff.2 (Memory.store_good _ (Memory.good_nil n) ?_)
  simp

theorem Buffer.read_copied (input : Buffer) (n a : Nat) :
    (input.copied n).cells.read a = if a < min input.size n then input.cells.read a else 0 := by
  rw [Buffer.copied, Memory.read_store rfl, if_neg (Nat.not_lt_zero a), Nat.sub_zero]
  split
  · next ha => rw [List.getD_eq_getElem _ _ (by simpa using ha), List.getElem_map, List.getElem_range]
  · next ha => exact List.getD_eq_default _ _ (by simpa using Nat.not_lt.mp ha)

/-- On a zeroed buffer the job returns the copied bytes; the predictor does not matter. -/
theorem State.copyNone_of_zeros {s : State} {n : Nat} (hout : s.out = Buffer.zeros n) :
    s.copyNone =
      State.finish { s with out := s.cfg.input.copied n } (State.okResult { s with out := s.cfg.input.copied n }) := by
  rw [State.copyNone, hout]
  rfl

/-- Only a Group 4 job returns a reference line (44_image_decode.md R253). -/
theorem State.okResult_of_ne_g4 {s : State} (hop : s.cfg.op ≠ .decodeG4) :
    s.okResult = { status := .ok, out := some s.out, failures := s.failures, refOut := none, enc := none } := by
  rw [State.okResult, if_neg hop]

/-- `JOB.COPY_NONE` of an accepted job: the job starts with a zeroed buffer and returns what the copy leaves in it. -/
theorem exec_jobCopyNone_accepted {s : State} {c : JobConfig} (hp : s.phase = .idle) (hr : s.request = some c)
    (hvalid : c.valid s.limits = true) (hop : c.op = .copyNone) :
    exec .jobCopyNone s =
      .next (State.finish { s.jobStart c with out := c.input.copied (c.stride * c.height) }
        { status := .ok
          out := some (c.input.copied (c.stride * c.height))
          failures := 0
          refOut := none
          enc := none }) := by
  have hexec : exec .jobCopyNone s = s.takeJob c.op State.copyNone := by rw [hop]; rfl
  have hout : (s.jobStart c).out = Buffer.zeros (c.stride * c.height) := State.jobStart_out (by rw [hop]; decide)
  rw [hexec, State.takeJob_accepted hp hr hvalid, State.copyNone_of_zeros hout,
    State.okResult_of_ne_g4 (show c.op ≠ .decodeG4 by rw [hop]; decide)]
  rfl

/-- Settles O18: the job returns the copied bytes. -/
theorem copyNoneCopies : Obligations.CopyNoneCopies := fun _ _ hp hr hvalid hop =>
  ⟨_, _, exec_jobCopyNone_accepted hp hr hvalid hop, rfl, Buffer.copied_wf _ _, Buffer.read_copied _ _,
    rfl, rfl, rfl, rfl⟩

end Sys2Proof.Machine
end

section
/-!
The shape of the result record (47_job_dispatch.md R343), shown once for each of the few ways a job ends: an error, `OK`
of a decode, `OK` of the encoder, and the fallback.
-/
namespace Sys2Proof.Machine

/-- What the result `r` of the job that ends in the step from `s` to `t` holds, by its status. -/
def ResultShape (s t : State) (r : JobResult) : Prop :=
  (r.status = .ok → t.cfg.op ≠ .encodeG4 →
    ∃ b, r.out = some b ∧ JobBuffer s t b ∧
      (isFaxDecode t.cfg.op = true → 0 < t.cfg.height → LastRowIs t b) ∧
      r.failures = t.failures ∧ r.enc = none ∧
      r.refOut = if t.cfg.op = .decodeG4 then some t.ref else none) ∧
  (r.status = .ok → t.cfg.op = .encodeG4 →
    r.out = none ∧ r.failures = 0 ∧ r.refOut = none ∧
      ∃ bytes, r.enc = some bytes ∧ Packed (s.encBits ++ eolWord ++ eolWord) bytes) ∧
  (r.status = .fallbackRequested →
    ∃ b, r.out = some b ∧ JobBuffer s t b ∧ (∀ a, s.row * s.cfg.stride ≤ a → b.cells.read a = 0) ∧
      r.failures = s.failures + (s.cfg.height - s.row) ∧ r.refOut = none ∧ r.enc = none) ∧
  (r.status ≠ .ok → r.status ≠ .fallbackRequested →
    r.out = none ∧ r.failures = 0 ∧ r.refOut = none ∧ r.enc = none)

/-- The job that ends in the step from `s` to `t` has returned a result of the shape its status asks for. -/
def ReturnsShaped (s t : State) : Prop := ∃ r, t.result = some r ∧ ResultShape s t r

theorem ReturnsShaped.of_error {s t : State} {st : Status} (hr : t.result = some (errorResult st)) (hok : st ≠ .ok)
    (hfall : st ≠ .fallbackRequested) : ReturnsShaped s t :=
  ⟨_, hr, fun h => absurd h hok, fun h => absurd h hok, fun h => absurd h hfall, fun _ _ => ⟨rfl, rfl, rfl, rfl⟩⟩

theorem ReturnsShaped.of_okResult {s u : State} (hop : u.cfg.op ≠ .encodeG4) (hbuf : JobBuffer s u u.out)
    (hlast : isFaxDecode u.cfg.op = true → 0 < u.cfg.height → LastRowIs u u.out) :
    ReturnsShaped s (u.finish u.okResult) :=
  ⟨_, rfl, fun _ _ => ⟨_, rfl, hbuf, hlast, rfl, rfl, rfl⟩, fun _ h => absurd h hop, nofun, fun h => absurd rfl h⟩

theorem ReturnsShaped.of_encodeResult {s u : State} {bytes : List Byte} (hop : u.cfg.op = .encodeG4)
    (hpack : Packed (s.encBits ++ eolWord ++ eolWord) bytes) : ReturnsShaped s (u.finish (encodeResult bytes)) :=
  ⟨_, rfl, fun _ h => absurd hop h, fun _ _ => ⟨rfl, rfl, rfl, _, rfl, hpack⟩, nofun, fun h => absurd rfl h⟩

theorem ReturnsShaped.of_fallbackResult {s u : State} {f : Nat} (hbuf : JobBuffer s u u.out)
    (hzero : ∀ a, s.row * s.cfg.stride ≤ a → u.out.cells.read a = 0) (hf : f = s.failures + (s.cfg.height - s.row)) :
    ReturnsShaped s (u.finish (u.fallbackResult f)) :=
  ⟨_, rfl, nofun, nofun, fun _ => ⟨_, rfl, hbuf, hzero, hf, rfl, rfl⟩, fun _ h => absurd rfl h⟩

/-- A fax decode is none of the other three operations. -/
theorem isFaxDecode_ne {op : Op} (h : isFaxDecode op = true) : op ≠ .encodeG4 ∧ op ≠ .decodeLzw ∧ op ≠ .copyNone := by
  refine ⟨?_, ?_, ?_⟩ <;>
  · rintro rfl
    cases h

end Sys2Proof.Machine
end

section
/-!
How a fax decode job ends (44_image_decode.md R240 to R255, 60_exceptions.md R364 to R368): with its last line, with a
raise, or at a missing EOL. In each case the row of the last word alone has changed, the rows after it are zero, and so
is a row given up.
-/
namespace Sys2Proof.Machine

/-! ## A row of a fax decode job -/

/-- The positions inside a row of a fax decode job. -/
def Phase.inFaxRow : Phase → Bool
  | .lineStart => true
  | .tagBit => true
  | .run _ _ _ => true
  | .modeWord => true
  | .uncompressed => true
  | .idle => false
  | .lzw => false
  | .encodeMode => false
  | .encodeRun1 _ _ _ => false
  | .encodeRun2 _ _ => false
  | .encodeEnd => false

/-- A row of a fax decode job is being decoded: it can be painted, it is one of the job's rows, the failures are earlier
rows, and the rows after it are zero. -/
structure State.InFaxRow (s : State) : Prop extends State.RowReady s where
  fax : isFaxDecode s.cfg.op = true
  row_lt : s.row < s.cfg.height
  out_size : s.out.size = s.cfg.stride * s.cfg.height
  failures_le : s.failures ≤ s.row
  failures_g4 : s.cfg.op = .decodeG4 → s.failures = 0
  rest_clear : ∀ a, (s.row + 1) * s.cfg.stride ≤ a → s.out.cells.read a = 0

/-- At every position in a row the row is in progress, and the pixels reached lie inside the width. -/
theorem State.phaseLegal_inFaxRow {s : State} (hi : s.Inv) (hp : s.phase.inFaxRow = true) :
    s.decodingRow = true ∧ ∃ x, x ≤ s.cfg.width ∧ s.unwrittenFrom = s.byteFrom x := by
  obtain ⟨-, -, hrange, -, hphase⟩ := State.inv_iff.mp hi
  obtain ⟨-, ha0, hpos, -⟩ := State.inRange_iff.mp hrange
  cases h : s.phase with
  | lineStart | tagBit =>
    simp only [State.phaseLegal, h, Bool.and_eq_true] at hphase
    obtain ⟨hdec, -⟩ := hphase
    exact ⟨hdec, 0, Nat.zero_le _, by rw [State.unwrittenFrom, h]⟩
  | run site x total =>
    cases site with
    | line1D | horizontal1 | horizontal2 =>
      simp only [State.phaseLegal, h, Bool.and_eq_true, decide_eq_true_eq] at hphase
      obtain ⟨⟨⟨⟨hdec, -⟩, -⟩, -⟩, hx⟩ := hphase
      exact ⟨hdec, x + total, hx, by rw [State.unwrittenFrom, h]⟩
  | modeWord =>
    simp only [State.phaseLegal, h, Bool.and_eq_true] at hphase
    obtain ⟨⟨hdec, -⟩, -⟩ := hphase
    exact ⟨hdec, s.a0p, Int.toNat_le.mpr ha0, by rw [State.unwrittenFrom, h]⟩
  | uncompressed =>
    simp only [State.phaseLegal, h, Bool.and_eq_true] at hphase
    obtain ⟨⟨⟨hdec, -⟩, -⟩, -⟩ := hphase
    exact ⟨hdec, s.pos, hpos, by rw [State.unwrittenFrom, h]⟩
  | idle | lzw | encodeMode | encodeRun1 | encodeRun2 | encodeEnd => simp [Phase.inFaxRow, h] at hp

theorem State.inv_inFaxRow {s : State} (hi : s.Inv) (hp : s.phase.inFaxRow = true) : s.InFaxRow := by
  obtain ⟨hdec, x, hx, hfrom⟩ := State.phaseLegal_inFaxRow hi hp
  obtain ⟨-, -, -, hrest, -⟩ := State.inv_iff.mp hi
  obtain ⟨-, hfax, hrow, hsize, hfail, hg4⟩ := State.decodingRow_iff.mp hdec
  refine ⟨State.rowReady_of_decodingRow hi hdec, hfax, hrow, hsize, hfail, fun hop => ?_, fun a ha => ?_⟩
  · exact (hg4.resolve_left (not_not_intro hop)).2
  · have hstride := JobConfig.stride_of_isFaxDecode hfax
    have hfits : s.unwrittenFrom ≤ (s.row + 1) * s.cfg.stride := by
      rw [hfrom, State.byteFrom, Nat.succ_mul]
      omega
    exact State.restClear_of_restUnlisted hrest a (hfits.trans ha)

/-- At the start of a line its row is zero, and so are the rows after it. -/
theorem State.read_lineStart {s : State} (hi : s.Inv) (hp : s.phase = .lineStart) (a : Nat)
    (ha : s.row * s.cfg.stride ≤ a) : s.out.cells.read a = 0 := by
  obtain ⟨-, -, -, hrest, -⟩ := State.inv_iff.mp hi
  apply State.restClear_of_restUnlisted hrest
  rwa [State.unwrittenFrom, hp]

/-! ## Work on the row -/

/-- `b` is `a` but for the bytes of row `k`. -/
structure Buffer.SameOutsideRow (a : Buffer) (stride k : Nat) (b : Buffer) : Prop where
  size_eq : b.size = a.size
  wf : b.wf = true
  read_eq : ∀ d, d < k * stride ∨ (k + 1) * stride ≤ d → b.cells.read d = a.cells.read d

theorem Buffer.Painted.sameOutsideRow {a b : Buffer} {stride k x0 x1 : Nat} {c : Color}
    (h : a.Painted stride k x0 x1 c b) (hx : x1 ≤ 8 * stride) : a.SameOutsideRow stride k b := by
  obtain ⟨hsize, hwf, -, -, hread⟩ := h
  refine ⟨hsize, hwf, fun d hd => hread d fun x _ hx1 => ?_⟩
  rw [Nat.succ_mul] at hd
  simp only [pixelAddr]
  omega

theorem Buffer.RowCleared.sameOutsideRow {a b : Buffer} {stride k : Nat} (h : a.RowCleared stride k b) :
    a.SameOutsideRow stride k b := by
  obtain ⟨hsize, hwf, -, hread⟩ := h
  exact ⟨hsize, hwf, hread⟩

/-- `u` is a state of the same job at the same row as `s`, in which no other row has been written. -/
structure State.SameRow (s u : State) : Prop where
  cfg_eq : u.cfg = s.cfg
  row_eq : u.row = s.row
  out_same : s.out.SameOutsideRow s.cfg.stride s.row u.out

namespace State.InFaxRow

theorem sameRow_refl {s : State} (hs : s.InFaxRow) : s.SameRow s := ⟨rfl, rfl, rfl, hs.out_wf, fun _ _ => rfl⟩

theorem sameRow_of_paint {s u : State} (hs : s.InFaxRow) {x0 x1 : Nat} {c : Color} (hx : x1 ≤ s.cfg.width)
    (h : s.paint x0 x1 c = some u) : s.SameRow u := by
  obtain ⟨b, hb, hpainted⟩ := hs.paint hx x0 c
  obtain rfl := Option.some_inj.mp (h.symm.trans hb)
  exact ⟨rfl, rfl, hpainted.sameOutsideRow (hx.trans hs.width_le)⟩

/-- A buffer in which this row alone has been written is the job's buffer. -/
theorem jobBuffer {s u : State} (hs : s.InFaxRow) (hu : s.SameRow u) : JobBuffer s u u.out := by
  obtain ⟨hcfg, -, hsize, hwf, hread⟩ := hu
  obtain ⟨-, hlzw, hcopy⟩ := isFaxDecode_ne hs.fax
  rw [JobBuffer, hcfg]
  exact ⟨hsize.trans hs.out_size, hwf, fun _ => hread, fun hop => absurd hop hlzw, fun hop => absurd hop hcopy⟩

/-- `OK` of the job after work on its last row. -/
theorem returns_okResult {s u : State} (hs : s.InFaxRow) (hu : s.SameRow u) (hlast : LastRowIs u u.out) :
    ReturnsShaped s (u.finish u.okResult) :=
  .of_okResult (hu.cfg_eq ▸ (isFaxDecode_ne hs.fax).1) (hs.jobBuffer hu) fun _ _ => hlast

/-- Where row `st.row` is the last one, it is row `height - 1`. -/
theorem last_row {s u : State} (hs : s.InFaxRow) (hu : s.SameRow u) (h : u.cfg.height ≤ u.row + 1) :
    u.cfg.height - 1 = u.row := by
  have hlt := hs.row_lt
  rw [← hu.cfg_eq, ← hu.row_eq] at hlt
  omega

end State.InFaxRow

/-! ## A decoded line ends the job -/

/-- The last line of a job returns the buffer and makes its last row the reference line (R248, R250). -/
theorem State.InFaxRow.returns_of_endLine {s u t : State} (hs : s.InFaxRow) (h : u.endLine = .next t)
    (hu : s.SameRow u) (ht : t.phase = .idle) : ReturnsShaped s t := by
  obtain ⟨r, hr, rfl⟩ := State.endLine_next h
  rcases (u.withReference r).afterRow_cases with ⟨-, -, heq⟩ | ⟨-, -, heq⟩ | ⟨hrow, heq⟩
  · rw [heq] at ht
    cases ht
  · rw [heq] at ht
    cases ht
  · obtain ⟨-, hpixels⟩ := Buffer.row_some hr
    rw [← hs.last_row hu hrow] at hpixels
    rw [heq]
    exact hs.returns_okResult ⟨hu.cfg_eq, hu.row_eq, hu.out_same⟩ ⟨fun _ => hpixels, nofun⟩

theorem State.InFaxRow.returns_of_endMode {s u t : State} (hs : s.InFaxRow) (h : u.endMode = .next t)
    (hu : s.SameRow u) (ht : t.phase = .idle) : ReturnsShaped s t := by
  rcases State.endMode_next h with ⟨-, hline⟩ | ⟨-, rfl⟩
  · exact hs.returns_of_endLine hline hu ht
  · cases ht

/-! ## A row given up ends the job -/

/-- Row `st.row` of the job in `s` has been given up in `u`: no other row has changed, and it reads 0 from its first
byte on. -/
structure State.RowGivenUp (s u : State) : Prop extends State.SameRow s u where
  clear : ∀ a, s.row * s.cfg.stride ≤ a → u.out.cells.read a = 0

theorem State.phase_afterEol_ne_idle (s : State) : s.afterEol.phase ≠ .idle := by
  rcases s.afterEol_cases with ⟨-, heq⟩ | ⟨-, heq⟩ <;> simp [heq]

namespace State.InFaxRow

/-- A job that resumes after a row given up and counted ends `OK` with a last row of zeros, or falls back with this row
and all after it counted (60_exceptions.md R367, R368). -/
theorem returns_of_resumeFrom {s u : State} (hs : s.InFaxRow) (hu : s.RowGivenUp u) (hinvalid : u.refValid = false)
    (hfail : u.failures = s.failures + 1) {p : Nat} (ht : (u.resumeFrom p).phase = .idle) :
    ReturnsShaped s (u.resumeFrom p) := by
  rcases u.resumeFrom_cases p with ⟨q, -, -, heq⟩ | ⟨q, -, hrow, heq⟩ | ⟨-, heq⟩
  · rw [heq] at ht
    exact absurd ht (State.phase_afterEol_ne_idle _)
  · rw [heq]
    have hzero : ∀ a, (u.cfg.height - 1) * u.cfg.stride ≤ a → u.out.cells.read a = 0 := by
      rw [hs.last_row hu.toSameRow hrow, hu.row_eq, hu.cfg_eq]
      exact hu.clear
    exact hs.returns_okResult (u := { u with cur := q + 12 }) ⟨hu.cfg_eq, hu.row_eq, hu.out_same⟩
      ⟨fun hvalid => absurd (hinvalid.symm.trans hvalid) Bool.false_ne_true, fun _ => hzero⟩
  · rw [heq]
    refine .of_fallbackResult (hs.jobBuffer hu.toSameRow) hu.clear ?_
    have hlt := hs.row_lt
    rw [hfail, hu.cfg_eq, hu.row_eq]
    omega

/-- A raise gives up the row by clearing it (R366). -/
theorem rowGivenUp_of_clearRow {s u : State} (hs : s.InFaxRow) (h : s.cursorOpen.clearRow = some u) :
    s.RowGivenUp u ∧ u.failures = s.failures := by
  obtain ⟨-, rfl⟩ := State.clearRow_some h
  have hcleared := Buffer.rowCleared_clear hs.out_wf hs.row_fits
  refine ⟨⟨⟨rfl, rfl, hcleared.sameOutsideRow⟩, fun a ha => ?_⟩, rfl⟩
  obtain ⟨-, -, hrow, hother⟩ := hcleared
  rcases Nat.lt_or_ge a ((s.row + 1) * s.cfg.stride) with hin | hafter
  · exact hrow a ha hin
  · exact (hother a (.inr hafter)).trans (hs.rest_clear a hafter)

/-- A raise that ends the job (R364 to R368, 44_image_decode.md R255). -/
theorem returns_of_raise {s t : State} (hs : s.InFaxRow) {e : FaxError} (h : s.raise e = .next t)
    (ht : t.phase = .idle) : ReturnsShaped s t := by
  rcases State.raise_next h with ⟨-, rfl⟩ | ⟨u, hu, -, hop, rfl⟩ | ⟨u, hu, -, -, rfl⟩
  · exact .of_error rfl (by cases e <;> exact nofun) (by cases e <;> exact nofun)
  · obtain ⟨hgiven, -⟩ := hs.rowGivenUp_of_clearRow hu
    refine .of_fallbackResult (hs.jobBuffer hgiven.toSameRow) hgiven.clear ?_
    rw [hs.failures_g4 hop, Nat.zero_add, hgiven.cfg_eq, hgiven.row_eq]
  · obtain ⟨⟨⟨hcfg, hrow, hout⟩, hclear⟩, hfail⟩ := hs.rowGivenUp_of_clearRow hu
    exact hs.returns_of_resumeFrom (u := { u.refInvalidated with failures := u.failures + 1 })
      ⟨⟨hcfg, hrow, hout⟩, hclear⟩ rfl (congrArg (· + 1) hfail) ht

end State.InFaxRow

/-- A missing EOL: the strict error, the fallback at row 0, or a row skipped and counted (R244, R254). -/
theorem State.missingEol_cases (s : State) :
    s.missingEol = s.finish (errorResult .malformedCode) ∨
    (s.row = 0 ∧ s.missingEol = s.finish (s.fallbackResult s.cfg.height)) ∨
    s.missingEol = State.resumeFrom { s.refInvalidated with failures := s.failures + 1 } s.cur := by
  unfold State.missingEol
  split
  · split
    · next hrow => exact .inr (.inl ⟨hrow, rfl⟩)
    · exact .inr (.inr rfl)
  · exact .inl rfl

/-- A missing EOL that ends the job: nothing of the row has been written. -/
theorem State.returns_of_missingEol {s : State} (hi : s.Inv) (hp : s.phase = .lineStart)
    (ht : s.missingEol.phase = .idle) : ReturnsShaped s s.missingEol := by
  have hs : s.InFaxRow := State.inv_inFaxRow hi (by rw [hp]; rfl)
  have hclear : ∀ a, s.row * s.cfg.stride ≤ a → s.out.cells.read a = 0 := State.read_lineStart hi hp
  rcases s.missingEol_cases with heq | ⟨hrow, heq⟩ | heq
  · rw [heq]
    exact .of_error rfl nofun nofun
  · rw [heq]
    refine .of_fallbackResult (hs.jobBuffer hs.sameRow_refl) hclear ?_
    have hnone := hs.failures_le
    omega
  · rw [heq] at ht ⊢
    exact hs.returns_of_resumeFrom (u := { s.refInvalidated with failures := s.failures + 1 })
      ⟨⟨rfl, rfl, hs.sameRow_refl.out_same⟩, hclear⟩ rfl rfl ht

end Sys2Proof.Machine
end

section
/-!
How the words of the line decoders end a job: each that can is a paint and the end of a line, or a raise. The same words
in the encoder end no job.
-/
namespace Sys2Proof.Machine

variable {s t : State}

theorem State.phase_of_paint {s u : State} {x0 x1 : Nat} {c : Color} (h : s.paint x0 x1 c = some u) :
    u.phase = s.phase := by
  rcases State.paint_some h with ⟨-, rfl⟩ | ⟨-, -, rfl⟩
  · rfl
  · rfl

/-! ## Run words -/

theorem State.endEncodeMode_ne_idle (h : s.endEncodeMode = .next t) : t.phase ≠ .idle := by
  rcases State.endEncodeMode_next h with ⟨-, rfl⟩ | ⟨r, -, -, ⟨-, rfl⟩ | ⟨-, rfl⟩⟩ <;> exact nofun

theorem State.emitRunWord_ne_idle {i : Instr} {e : RunEntry} (h : s.emitRunWord i e = .next t) : t.phase ≠ .idle := by
  rcases State.emitRunWord_next h with ⟨left, a1, a2, -, -, hword⟩ | ⟨left, a2, -, -, ⟨-, hend⟩ | ⟨-, rfl⟩⟩
  · rcases hword with ⟨-, rfl⟩ | ⟨-, rfl⟩ <;> exact nofun
  · exact State.endEncodeMode_ne_idle hend
  · exact nofun

theorem State.InFaxRow.returns_of_decodeRunWord (hs : s.InFaxRow) {len : Nat} {e : RunEntry} {site : RunSite}
    {x total : Nat} (h : s.decodeRunWord len e site x total = .next t) (ht : t.phase = .idle) :
    ReturnsShaped s t := by
  rcases State.decodeRunWord_next h with ⟨-, hraise⟩ | ⟨u, hfits, hpaint, ⟨-, hend⟩ | ⟨-, rfl⟩⟩
  · exact hs.returns_of_raise hraise ht
  · obtain ⟨hcfg, hrow, hout⟩ := hs.sameRow_of_paint hfits hpaint
    rcases State.endRun_next hend with ⟨-, -, hline⟩ | ⟨-, -, rfl⟩ | ⟨-, rfl⟩ | ⟨-, hmode⟩
    · exact hs.returns_of_endLine hline ⟨hcfg, hrow, hout⟩ ht
    · cases ht
    · cases ht
    · exact hs.returns_of_endMode hmode ⟨hcfg, hrow, hout⟩ ht
  · cases ht

theorem State.returns_of_runWord (hi : s.Inv) {i : Instr} {e : RunEntry} (h : s.runWord i e = .next t)
    (ht : t.phase = .idle) : ReturnsShaped s t := by
  rcases State.runWord_next h with ⟨site, x, total, hp, -, hdec⟩ | hemit
  · exact (State.inv_inFaxRow hi (by rw [hp]; rfl)).returns_of_decodeRunWord hdec ht
  · exact absurd ht (State.emitRunWord_ne_idle hemit)

/-! ## Framing -/

theorem State.returns_of_execEol (hi : s.Inv) {fill : Nat} (h : execEol fill s = .next t) (ht : t.phase = .idle) :
    ReturnsShaped s t := by
  unfold execEol at h
  split at h
  · split at h
    · obtain rfl := Host.Outcome.next.inj h
      exact absurd ht (State.phase_afterEol_ne_idle _)
    · cases h
  · next hp =>
    split at h
    · exact (State.inv_inFaxRow hi (by rw [hp]; rfl)).returns_of_raise h ht
    · cases h
  · next hp =>
    split at h
    · exact (State.inv_inFaxRow hi (by rw [hp]; rfl)).returns_of_raise h ht
    · cases h
  · cases h

theorem execTag1_ne_idle (h : execTag1 s = .next t) : t.phase ≠ .idle := by
  unfold execTag1 at h
  split at h
  · obtain rfl := Host.Outcome.next.inj h
    exact nofun
  · cases h

theorem State.returns_of_execTag0 (hi : s.Inv) (h : execTag0 s = .next t) (ht : t.phase = .idle) :
    ReturnsShaped s t := by
  unfold execTag0 at h
  split at h
  · next hp =>
    split at h
    · obtain rfl := Host.Outcome.next.inj h
      cases ht
    · exact (State.inv_inFaxRow hi (by rw [hp]; rfl)).returns_of_raise h ht
  · cases h

/-! ## Mode words -/

theorem State.returns_of_execP (hi : s.Inv) (h : execP s = .next t) (ht : t.phase = .idle) : ReturnsShaped s t := by
  rcases State.atModeWord_next h with ⟨hp, hdec⟩ | ⟨r, -, -, -, henc⟩
  · obtain ⟨-, -, href⟩ := State.inv_modeWord hi hp
    have hs : s.InFaxRow := State.inv_inFaxRow hi (by rw [hp]; rfl)
    obtain ⟨u, hpaint, hmode⟩ := State.pass_next hdec
    obtain ⟨hcfg, hrow, hout⟩ := hs.sameRow_of_paint (State.b2_le_width href) hpaint
    exact hs.returns_of_endMode hmode ⟨hcfg, hrow, hout⟩ ht
  · exact absurd ht (State.endEncodeMode_ne_idle henc)

theorem execH_ne_idle (h : execH s = .next t) : t.phase ≠ .idle := by
  rcases State.atModeWord_next h with ⟨-, hdec⟩ | ⟨r, -, -, -, henc⟩
  · obtain rfl := Host.Outcome.next.inj hdec
    exact nofun
  · obtain rfl := Host.Outcome.next.inj henc
    exact nofun

theorem State.returns_of_verticalWordAt (hi : s.Inv) {i : Instr} {d : Int} (h : s.verticalWordAt i d = .next t)
    (ht : t.phase = .idle) : ReturnsShaped s t := by
  rcases State.atModeWord_next h with ⟨hp, hdec⟩ | ⟨r, -, -, -, henc⟩
  · have hs : s.InFaxRow := State.inv_inFaxRow hi (by rw [hp]; rfl)
    rcases State.vertical_next hdec with ⟨u, -, hwidth, hpaint, hmode⟩ | ⟨-, hraise⟩
    · obtain ⟨hcfg, hrow, hout⟩ := hs.sameRow_of_paint (Int.toNat_le.mpr hwidth) hpaint
      exact hs.returns_of_endMode hmode ⟨hcfg, hrow, hout⟩ ht
    · exact hs.returns_of_raise hraise ht
  · exact absurd ht (State.endEncodeMode_ne_idle henc)

theorem State.enterUncompressed_ne_idle (h : s.enterUncompressed = .next t) : t.phase ≠ .idle := by
  unfold State.enterUncompressed at h
  split at h
  · split at h
    · obtain rfl := Host.Outcome.next.inj h
      exact nofun
    · cases h
  · cases h

theorem State.returns_of_malformedMode (hi : s.Inv) {g4 : Option Bool} (h : s.malformedMode g4 = .next t)
    (ht : t.phase = .idle) : ReturnsShaped s t := by
  unfold State.malformedMode at h
  split at h
  · next hp =>
    split at h
    · exact (State.inv_inFaxRow hi (by rw [hp]; rfl)).returns_of_raise h ht
    · cases h
  · cases h

theorem State.returns_of_execExtRes (hi : s.Inv) {sel : BitVec 3} (h : execExtRes sel s = .next t)
    (ht : t.phase = .idle) : ReturnsShaped s t := by
  unfold execExtRes at h
  split at h
  · cases h
  · exact State.returns_of_malformedMode hi h ht

/-! ## Words of uncompressed mode -/

theorem State.returns_of_uncompressedImage (hi : s.Inv) {i : Instr} {z : Nat} {black : Bool}
    (h : s.uncompressedImage i z black = .next t) (ht : t.phase = .idle) : ReturnsShaped s t := by
  obtain ⟨hp, ⟨-, hraise⟩ | ⟨u, v, -, hwhite, hblack, rfl⟩⟩ := State.uncompressedImage_next h
  · exact (State.inv_inFaxRow hi (by rw [hp]; rfl)).returns_of_raise hraise ht
  · have hphase : v.phase = .idle := ht
    rw [State.phase_of_paint hblack, State.phase_of_paint hwhite, hp] at hphase
    cases hphase

theorem State.returns_of_uncompressedExit (hi : s.Inv) {i : Instr} {n : Nat} {b : Bool}
    (h : s.uncompressedExit i n b = .next t) (ht : t.phase = .idle) : ReturnsShaped s t := by
  obtain ⟨hp, hcases⟩ := State.uncompressedExit_next h
  have hs : s.InFaxRow := State.inv_inFaxRow hi (by rw [hp]; rfl)
  rcases hcases with ⟨-, hraise⟩ | ⟨u, hfits, hpaint, hmode⟩
  · exact hs.returns_of_raise hraise ht
  · obtain ⟨hcfg, hrow, hout⟩ := hs.sameRow_of_paint hfits hpaint
    exact hs.returns_of_endMode hmode ⟨hcfg, hrow, hout⟩ ht

theorem State.returns_of_execUInvalid (hi : s.Inv) (h : execUInvalid s = .next t) (ht : t.phase = .idle) :
    ReturnsShaped s t := by
  unfold execUInvalid at h
  split at h
  · next hp => exact (State.inv_inFaxRow hi (by rw [hp]; rfl)).returns_of_raise h ht
  · cases h

end Sys2Proof.Machine
end

section
/-!
How the other jobs end: an LZW decode where its loop is left (46_lzw_decoder.md R304, R310), an encode at its end of
block (45_fax_encoder.md R284), and some jobs where they are taken from the port (47_job_dispatch.md R340, R342).
-/
namespace Sys2Proof.Machine

variable {s t : State}

/-! ## The LZW loop -/

theorem State.unpredict_some {u : State} (h : s.unpredict = some u) : ∃ b, u = { s with out := b } := by
  unfold State.unpredict at h
  simp only at h
  split at h
  · exact ⟨_, (Option.some_inj.mp h).symm⟩
  · cases h

theorem LzwOutput.size_wf {b : Buffer} (hs : s.InLzwLoop) (h : LzwOutput s b) :
    b.size = s.out.size ∧ b.wf = true := by
  obtain ⟨-, hrev, hsame⟩ := h
  by_cases hpred : s.cfg.predictor = .horizontal
  · obtain ⟨hsize, hwf, -⟩ := hrev hpred
    exact ⟨hsize, hwf⟩
  · rw [hsame hpred]
    exact ⟨rfl, hs.out_wf⟩

/-- What the LZW loop has left is the job's buffer. -/
theorem State.InLzwLoop.jobBuffer {b : Buffer} (hs : s.InLzwLoop) (h : LzwOutput s b) : JobBuffer s s b := by
  obtain ⟨hsize, hwf⟩ := LzwOutput.size_wf hs h
  exact ⟨hsize.trans hs.out_size, hwf, fun hfax => absurd hs.op_eq (isFaxDecode_ne hfax).2.1, fun _ => h,
    fun hop => nomatch hs.op_eq.symm.trans hop⟩

/-- Where the LZW loop is left the job returns its buffer, the predictor reversed if the job asks for it (R304). -/
theorem State.InLzwLoop.returns_of_finishLzw (hs : s.InLzwLoop) (h : s.finishLzw = .next t) : ReturnsShaped s t := by
  obtain ⟨b, rfl⟩ : ∃ b, t = State.finish { s with out := b } (State.okResult { s with out := b }) := by
    rcases State.finishLzw_next h with ⟨-, u, hu, rfl⟩ | ⟨-, rfl⟩
    · obtain ⟨b, rfl⟩ := State.unpredict_some hu
      exact ⟨b, rfl⟩
    · exact ⟨s.out, rfl⟩
  have hout : LzwOutput s b := by
    obtain ⟨t, ht, b', hb', -, hresult, -⟩ := State.finishLzw_ends hs
    obtain rfl := Host.Outcome.next.inj (h.symm.trans ht)
    have hbuf : some b = some b' := congrArg JobResult.out (Option.some_inj.mp hresult)
    rwa [Option.some_inj.mp hbuf]
  exact .of_okResult (u := { s with out := b }) (fun hop => nomatch hs.op_eq.symm.trans hop) (hs.jobBuffer hout)
    fun hfax => absurd hs.op_eq (isFaxDecode_ne hfax).2.1

theorem execLzwClr_phase (h : execLzwClr s = .next t) : t.phase = .lzw := by
  obtain ⟨hp, hbody⟩ := State.atLzwCode_next h
  obtain rfl := Host.Outcome.next.inj hbody
  exact hp

theorem State.returns_of_execLzwEnd (hi : s.Inv) (h : execLzwEnd s = .next t) : ReturnsShaped s t := by
  obtain ⟨hp, hbody⟩ := State.atLzwCode_next h
  exact ((State.inv_lzw hi hp).advanced s.lzwWidth).returns_of_finishLzw hbody

theorem State.phase_addEntry (s : State) (code : Nat) (new : List Byte) : (s.addEntry code new).phase = s.phase := by
  rcases s.addEntry_cases code new with ⟨-, heq⟩ | ⟨-, heq⟩
  · rw [heq, State.initTable_phase]
  · rw [heq]

theorem execLzwFirst_phase {c : Nat} (h : execLzwFirst c s = .next t) : t.phase = .lzw := by
  obtain ⟨hp, hbody⟩ := State.atLzwCode_next h
  split at hbody
  · split at hbody
    · obtain rfl := Host.Outcome.next.inj hbody
      exact hp
    · cases hbody
  · cases hbody

theorem execLzwEntry_phase {code : Nat} (h : execLzwEntry code s = .next t) : t.phase = .lzw := by
  obtain ⟨hp, hbody⟩ := State.atLzwCode_next h
  split at hbody
  · cases hbody
  · split at hbody
    · split at hbody
      · obtain rfl := Host.Outcome.next.inj hbody
        exact (State.phase_addEntry _ _ _).trans hp
      · cases hbody
    · cases hbody

theorem execLzwKwkwk_phase {code : Nat} (h : execLzwKwkwk code s = .next t) : t.phase = .lzw := by
  obtain ⟨hp, hbody⟩ := State.atLzwCode_next h
  split at hbody
  · cases hbody
  · split at hbody
    · split at hbody
      · obtain rfl := Host.Outcome.next.inj hbody
        exact (State.phase_addEntry _ _ _).trans hp
      · cases hbody
    · cases hbody

theorem State.returns_of_execLzwInvalid {code : Nat} (h : execLzwInvalid code s = .next t) : ReturnsShaped s t := by
  obtain ⟨-, hbody⟩ := State.atLzwCode_next h
  split at hbody
  · obtain rfl := Host.Outcome.next.inj hbody
    exact .of_error rfl nofun nofun
  · cases hbody

/-! ## The end of block -/

/-- What the invariant gives at the end of block. -/
theorem State.inv_encodeEnd (hi : s.Inv) (hp : s.phase = .encodeEnd) : s.cfg.op = .encodeG4 := by
  obtain ⟨-, -, -, -, hphase⟩ := State.inv_iff.mp hi
  simp only [State.phaseLegal, hp, Bool.and_eq_true, decide_eq_true_eq] at hphase
  obtain ⟨-, hop⟩ := hphase
  exact hop

theorem State.returns_of_execEofb (hi : s.Inv) (h : execEofb s = .next t) : ReturnsShaped s t := by
  unfold execEofb at h
  split at h
  · next hp =>
    obtain rfl := Host.Outcome.next.inj h
    exact .of_encodeResult (State.inv_encodeEnd hi hp) (append_encode_eofb s.encBits ▸ packed_pack _)
  · cases h

/-! ## A job that ends where it is taken from the port -/

/-- An idle engine's output buffer reads 0 (log 5). -/
theorem State.read_idle (hi : s.Inv) (hp : s.phase = .idle) (a : Nat) : s.out.cells.read a = 0 := by
  obtain ⟨-, -, -, hrest, -⟩ := State.inv_iff.mp hi
  apply State.restClear_of_restUnlisted hrest
  rw [State.unwrittenFrom, hp]
  exact Nat.zero_le a

/-- A fax decode job of height 0 returns its empty buffer (44_image_decode.md R256). -/
theorem State.returns_of_height_zero {u : State} (hi : s.Inv) (hp : s.phase = .idle)
    (hfax : isFaxDecode u.cfg.op = true) (hout : u.out = Buffer.zeros (u.cfg.stride * u.cfg.height))
    (hh : u.cfg.height = 0) : ReturnsShaped s (u.finish u.okResult) := by
  obtain ⟨henc, hlzw, hcopy⟩ := isFaxDecode_ne hfax
  refine .of_okResult henc ?_ fun _ hpos => absurd hh hpos.ne'
  rw [hout]
  exact ⟨rfl, rfl, fun _ a _ => (State.read_idle hi hp a).symm, fun hop => absurd hop hlzw, fun hop => absurd hop hcopy⟩

theorem State.returns_of_beginG3 {u : State} (hi : s.Inv) (hp : s.phase = .idle) (hfax : isFaxDecode u.cfg.op = true)
    (hout : u.out = Buffer.zeros (u.cfg.stride * u.cfg.height)) (ht : u.beginG3.phase = .idle) :
    ReturnsShaped s u.beginG3 := by
  unfold State.beginG3 at ht ⊢
  split at ht
  · next hh =>
    rw [if_pos hh]
    exact State.returns_of_height_zero hi hp hfax hout hh
  · cases ht

theorem State.returns_of_beginG4 {u : State} (hi : s.Inv) (hp : s.phase = .idle) (hfax : isFaxDecode u.cfg.op = true)
    (hout : u.out = Buffer.zeros (u.cfg.stride * u.cfg.height)) (ht : u.beginG4.phase = .idle) :
    ReturnsShaped s u.beginG4 := by
  unfold State.beginG4 at ht ⊢
  dsimp only at ht ⊢
  split at ht
  · next hh =>
    rw [if_pos hh]
    exact State.returns_of_height_zero hi hp hfax hout hh
  · cases ht

/-- The copied bytes are the job's buffer (R342). -/
theorem jobBuffer_copied {u : State} (hop : u.cfg.op = .copyNone) :
    JobBuffer s u (u.cfg.input.copied (u.cfg.stride * u.cfg.height)) :=
  ⟨rfl, Buffer.copied_wf _ _, fun hfax => absurd hop (isFaxDecode_ne hfax).2.2,
    fun hlzw => absurd (hop.symm.trans hlzw) nofun, fun _ => Buffer.read_copied _ _⟩

theorem State.returns_of_copyNone {u : State} (hop : u.cfg.op = .copyNone)
    (hout : u.out = Buffer.zeros (u.cfg.stride * u.cfg.height)) : ReturnsShaped s u.copyNone := by
  rw [State.copyNone_of_zeros hout]
  exact .of_okResult (u := { u with out := u.cfg.input.copied (u.cfg.stride * u.cfg.height) })
    (fun henc => nomatch hop.symm.trans henc) (jobBuffer_copied hop) fun hfax => absurd hop (isFaxDecode_ne hfax).2.2

/-- A job taken from the port returns at once where it is refused, or where its beginning ends it. -/
theorem State.returns_of_takeJob {op : Op} {begin : State → State} (h : s.takeJob op begin = .next t)
    (hbegin : ∀ u, s.phase = .idle → u.cfg.op = op →
      (op ≠ .encodeG4 → u.out = Buffer.zeros (u.cfg.stride * u.cfg.height)) → (begin u).phase = .idle →
      ReturnsShaped s (begin u)) (ht : t.phase = .idle) : ReturnsShaped s t := by
  obtain ⟨c, hp, -, rfl, ⟨-, rfl⟩ | ⟨-, rfl⟩⟩ := State.takeJob_next h
  · exact hbegin (s.jobStart c) hp rfl State.jobStart_out ht
  · exact .of_error rfl nofun nofun

theorem State.beginEncode_ne_idle (u : State) : u.beginEncode.phase ≠ .idle := by
  unfold State.beginEncode
  split <;> exact nofun

end Sys2Proof.Machine
end

section
/-!
PROOF of O55: what the result record holds where a job ends (47_job_dispatch.md R343). A step executes an instruction or
handles an event; each instruction and each event that ends the job returns a result of the shape its status asks for.
-/
namespace Sys2Proof.Machine

/-! ## Every instruction -/

/-- A run word has the meaning its entry of the run-length tables gives it. -/
theorem exec_of_runEntry {i : Instr} {e : RunEntry} (h : i.runEntry = some e) (s : State) :
    exec i s = s.runWord i e := by
  cases i <;> cases h <;> rfl

theorem returns_of_exec {s t : State} {i : Instr} (hi : s.Inv) (h : exec i s = .next t) (ht : t.phase = .idle) :
    ReturnsShaped s t := by
  cases hrun : i.runEntry with
  | some e => exact State.returns_of_runWord hi ((exec_of_runEntry hrun s).symm.trans h) ht
  | none =>
    cases i with
    | eol fill => exact State.returns_of_execEol hi h ht
    | tag1 => exact absurd ht (execTag1_ne_idle h)
    | tag0 => exact State.returns_of_execTag0 hi h ht
    | p => exact State.returns_of_execP hi h ht
    | h => exact absurd ht (execH_ne_idle h)
    | vl3 | vl2 | vl1 | v0 | vr1 | vr2 | vr3 => exact State.returns_of_verticalWordAt hi h ht
    | extU => exact absurd ht (State.enterUncompressed_ne_idle h)
    | extRes sel => exact State.returns_of_execExtRes hi h ht
    | extG3 | modeInvalid => exact State.returns_of_malformedMode hi h ht
    | uB | uWB | uWWB | uWWWB | uWWWWB | uWWWWW => exact State.returns_of_uncompressedImage hi h ht
    | uX0 | uX1 | uX2 | uX3 | uX4 => exact State.returns_of_uncompressedExit hi h ht
    | uInvalid => exact State.returns_of_execUInvalid hi h ht
    | lzwClr => exact nomatch (execLzwClr_phase h).symm.trans ht
    | lzwEnd => exact State.returns_of_execLzwEnd hi h
    | lzwFirst c => exact nomatch (execLzwFirst_phase h).symm.trans ht
    | lzwEntry code => exact nomatch (execLzwEntry_phase h).symm.trans ht
    | lzwKwkwk code => exact nomatch (execLzwKwkwk_phase h).symm.trans ht
    | lzwInvalid code => exact State.returns_of_execLzwInvalid h
    | eofb => exact State.returns_of_execEofb hi h
    | jobDecodeG31D | jobDecodeG32D =>
      refine State.returns_of_takeJob h (fun u hp hop hout ht => ?_) ht
      exact State.returns_of_beginG3 hi hp (hop ▸ rfl) (hout nofun) ht
    | jobDecodeG4 =>
      refine State.returns_of_takeJob h (fun u hp hop hout ht => ?_) ht
      exact State.returns_of_beginG4 hi hp (hop ▸ rfl) (hout nofun) ht
    | jobDecodeLzw => exact State.returns_of_takeJob h (fun u _ _ _ ht => nomatch ht) ht
    | jobCopyNone =>
      exact State.returns_of_takeJob h (fun u _ hop hout _ => State.returns_of_copyNone hop (hout nofun)) ht
    | jobEncodeG4 => exact State.returns_of_takeJob h (fun u _ _ _ ht => absurd ht u.beginEncode_ne_idle) ht
    | _ => cases hrun

/-! ## Every event -/

/-- Only at a line start, at a run word and at the end of block can the decoder reject (30_encoding.md R95). -/
theorem decode_reject {sp : Space} {bits : List Bool} {e : DecodeError} (h : decode sp bits = .reject e) :
    (∃ fill, sp = .frame fill ∧ e = .noEol) ∨ (∃ c, sp = .run c ∧ e = .noRunWord) ∨ sp = .endOfBlock := by
  cases sp with
  | frame fill =>
    refine .inl ⟨fill, rfl, ?_⟩
    simp only [decode, decodeFrame] at h
    split at h <;> split at h <;> cases h <;> rfl
  | run c =>
    refine .inr (.inl ⟨c, rfl, ?_⟩)
    simp only [decode, decodeRun] at h
    split at h
    · cases h
    · split at h <;> cases h
      rfl
  | endOfBlock => exact .inr (.inr rfl)
  | tag | mode | uncompressed | lzw => cases h

theorem State.phase_of_space_frame {s : State} {fill : Bool} (h : s.space = some (.frame fill)) :
    s.phase = .lineStart := by
  unfold State.space at h
  split at h <;> cases h
  assumption

theorem State.phase_of_space_run {s : State} {c : Color} (h : s.space = some (.run c)) : s.phase.inFaxRow = true := by
  unfold State.space at h
  split at h <;> cases h
  next hp => rw [hp]; rfl

theorem State.space_ne_endOfBlock (s : State) : s.space ≠ some .endOfBlock := by
  unfold State.space
  split <;> exact nofun

/-- Where a step finds an event: nothing is submitted, a run or an EOL is not there, or the LZW loop stops. -/
theorem State.fetch_event {s : State} {e : Event} (h : s.fetch = .event e) :
    (e = .waiting ∧ s.phase = .idle ∧ s.request = none) ∨ (e = .noRunWord ∧ s.phase.inFaxRow = true) ∨
      (e = .noEol ∧ s.phase = .lineStart) ∨ (e = .lzwStop ∧ s.phase = .lzw) := by
  cases hsp : s.space with
  | some sp =>
    simp only [State.fetch, hsp] at h
    split at h
    · next hstop =>
      cases h
      exact .inr (.inr (.inr ⟨rfl, hstop.1⟩))
    · cases hdec : decode sp s.window with
      | word i => rw [hdec] at h; cases h
      | reject d =>
        rw [hdec] at h
        rcases decode_reject hdec with ⟨fill, rfl, rfl⟩ | ⟨c, rfl, rfl⟩ | rfl
        · cases h
          exact .inr (.inr (.inl ⟨rfl, State.phase_of_space_frame hsp⟩))
        · cases h
          exact .inr (.inl ⟨rfl, State.phase_of_space_run hsp⟩)
        · exact absurd hsp s.space_ne_endOfBlock
  | none =>
    cases hp : s.phase with
    | idle =>
      cases hr : s.request with
      | none =>
        cases (State.fetch_idle_waiting hp hr).symm.trans h
        exact .inl ⟨rfl, rfl, rfl⟩
      | some c => cases (State.fetch_idle_of_request hp hr).symm.trans h
    | encodeMode => simp [State.fetch, hsp, hp] at h
    | encodeRun1 => cases (State.fetch_encodeRun1 hp).symm.trans h
    | encodeRun2 => cases (State.fetch_encodeRun2 hp).symm.trans h
    | encodeEnd => cases (State.fetch_encodeEnd hp).symm.trans h
    | lineStart | tagBit | run | modeWord | uncompressed | lzw => simp [State.space, hp] at hsp

theorem returns_of_handle {s t : State} {e : Event} (hi : s.Inv) (hjob : s.phase ≠ .idle ∨ s.request ≠ none)
    (hf : s.fetch = .event e) (h : s.handle e = .next t) (ht : t.phase = .idle) : ReturnsShaped s t := by
  rcases State.fetch_event hf with ⟨-, hp, hr⟩ | ⟨rfl, hp⟩ | ⟨rfl, hp⟩ | ⟨rfl, hp⟩
  · exact absurd hjob (not_or.mpr ⟨not_not_intro hp, not_not_intro hr⟩)
  · exact (State.inv_inFaxRow hi hp).returns_of_raise h ht
  · obtain rfl := Host.Outcome.next.inj h
    exact State.returns_of_missingEol hi hp ht
  · exact (State.inv_lzw hi hp).returns_of_finishLzw h

/-- Settles O55: the step executes an instruction or handles an event, and each returns a result of its shape. -/
theorem resultRecordShapes : Obligations.ResultRecordShapes := fun s t hi hjob hstep ht => by
  cases hf : s.fetch with
  | word i => exact returns_of_exec hi ((step_word hf).symm.trans hstep) ht
  | event e => exact returns_of_handle hi hjob hf ((step_event hf).symm.trans hstep) ht

end Sys2Proof.Machine
end

section
/-!
PROOF of O23: the raise of a fax error (60_exceptions.md R364 to R368, 44_image_decode.md R255).
-/
namespace Sys2Proof.Machine

/-- Settles O23: the row lies in the canonical output buffer, so a tolerant job can clear it. -/
theorem raiseFollowsThePolicy : Obligations.RaiseFollowsThePolicy := fun _ e hwf hfits =>
  State.raise_raised hwf hfits e

end Sys2Proof.Machine
end

section
/-!
The three ways a step ends a fax decode job: the end of its last line, the raise of an error, and a missing EOL. Every
word of the line decoders that ends the job ends it in one of them.
-/
namespace Sys2Proof.Machine

variable {s t : State}

/-! ## Work on a row -/

/-- `u` belongs to the same job as `s` and has counted the same failures. -/
structure State.SameCount (s u : State) : Prop where
  cfg_eq : u.cfg = s.cfg
  failures_eq : u.failures = s.failures

theorem State.sameCount_of_paint {u : State} {x0 x1 : Nat} {c : Color} (h : s.paint x0 x1 c = some u) :
    s.SameCount u := by
  rcases State.paint_some h with ⟨-, rfl⟩ | ⟨-, -, rfl⟩
  · exact ⟨rfl, rfl⟩
  · exact ⟨rfl, rfl⟩

/-- How the step from `s` to `t` ends a fax decode job (44_image_decode.md R240, R244, 60_exceptions.md R364). -/
inductive FaxJobEnds (s t : State) : Prop
  | lastLine (u : State) (ends : u.endLine = .next t) (same : s.SameCount u)
  | raised (e : FaxError) (raises : s.raise e = .next t)
  | missingEol (skips : t = s.missingEol)

/-! ## The words of the line decoders -/

theorem FaxJobEnds.of_endMode {u : State} (h : u.endMode = .next t) (hu : s.SameCount u) (ht : t.phase = .idle) :
    FaxJobEnds s t := by
  rcases State.endMode_next h with ⟨-, hline⟩ | ⟨-, rfl⟩
  · exact .lastLine u hline hu
  · cases ht

theorem FaxJobEnds.of_decodeRunWord {len : Nat} {e : RunEntry} {site : RunSite} {x total : Nat}
    (h : s.decodeRunWord len e site x total = .next t) (ht : t.phase = .idle) : FaxJobEnds s t := by
  rcases State.decodeRunWord_next h with ⟨-, hraise⟩ | ⟨u, -, hpaint, ⟨-, hend⟩ | ⟨-, rfl⟩⟩
  · exact .raised _ hraise
  · obtain ⟨hcfg, hfail⟩ := State.sameCount_of_paint hpaint
    rcases State.endRun_next hend with ⟨-, -, hline⟩ | ⟨-, -, rfl⟩ | ⟨-, rfl⟩ | ⟨-, hmode⟩
    · exact .lastLine _ hline ⟨hcfg, hfail⟩
    · cases ht
    · cases ht
    · exact .of_endMode hmode ⟨hcfg, hfail⟩ ht
  · cases ht

theorem FaxJobEnds.of_runWord {i : Instr} {e : RunEntry} (h : s.runWord i e = .next t) (ht : t.phase = .idle) :
    FaxJobEnds s t := by
  rcases State.runWord_next h with ⟨site, x, total, -, -, hdec⟩ | hemit
  · exact .of_decodeRunWord hdec ht
  · exact absurd ht (State.emitRunWord_ne_idle hemit)

/-- An EOL opens a line, or it raises `PrematureEOL` inside one. -/
theorem FaxJobEnds.of_execEol {fill : Nat} (h : execEol fill s = .next t) (ht : t.phase = .idle) :
    FaxJobEnds s t := by
  unfold execEol at h
  split at h
  · split at h
    · obtain rfl := Host.Outcome.next.inj h
      exact absurd ht (State.phase_afterEol_ne_idle _)
    · cases h
  · split at h
    · exact .raised _ h
    · cases h
  · split at h
    · exact .raised _ h
    · cases h
  · cases h

theorem FaxJobEnds.of_execTag0 (h : execTag0 s = .next t) (ht : t.phase = .idle) : FaxJobEnds s t := by
  unfold execTag0 at h
  split at h
  · split at h
    · obtain rfl := Host.Outcome.next.inj h
      cases ht
    · exact .raised _ h
  · cases h

theorem FaxJobEnds.of_execP (h : execP s = .next t) (ht : t.phase = .idle) : FaxJobEnds s t := by
  rcases State.atModeWord_next h with ⟨-, hdec⟩ | ⟨r, -, -, -, henc⟩
  · obtain ⟨u, hpaint, hmode⟩ := State.pass_next hdec
    obtain ⟨hcfg, hfail⟩ := State.sameCount_of_paint hpaint
    exact .of_endMode hmode ⟨hcfg, hfail⟩ ht
  · exact absurd ht (State.endEncodeMode_ne_idle henc)

theorem FaxJobEnds.of_verticalWordAt {i : Instr} {d : Int} (h : s.verticalWordAt i d = .next t)
    (ht : t.phase = .idle) : FaxJobEnds s t := by
  rcases State.atModeWord_next h with ⟨-, hdec⟩ | ⟨r, -, -, -, henc⟩
  · rcases State.vertical_next hdec with ⟨u, -, -, hpaint, hmode⟩ | ⟨-, hraise⟩
    · obtain ⟨hcfg, hfail⟩ := State.sameCount_of_paint hpaint
      exact .of_endMode hmode ⟨hcfg, hfail⟩ ht
    · exact .raised _ hraise
  · exact absurd ht (State.endEncodeMode_ne_idle henc)

/-- A malformed mode word can only raise. -/
theorem FaxJobEnds.of_malformedMode {g4 : Option Bool} (h : s.malformedMode g4 = .next t) : FaxJobEnds s t := by
  unfold State.malformedMode at h
  split at h
  · split at h
    · exact .raised _ h
    · cases h
  · cases h

theorem FaxJobEnds.of_execExtRes {sel : BitVec 3} (h : execExtRes sel s = .next t) : FaxJobEnds s t := by
  unfold execExtRes at h
  split at h
  · cases h
  · exact .of_malformedMode h

theorem FaxJobEnds.of_uncompressedImage {i : Instr} {z : Nat} {black : Bool}
    (h : s.uncompressedImage i z black = .next t) (ht : t.phase = .idle) : FaxJobEnds s t := by
  obtain ⟨hp, ⟨-, hraise⟩ | ⟨u, v, -, hwhite, hblack, rfl⟩⟩ := State.uncompressedImage_next h
  · exact .raised _ hraise
  · have hphase : v.phase = s.phase := (State.phase_of_paint hblack).trans (State.phase_of_paint hwhite)
    exact nomatch hp.symm.trans (hphase.symm.trans ht)

theorem FaxJobEnds.of_uncompressedExit {i : Instr} {n : Nat} {b : Bool}
    (h : s.uncompressedExit i n b = .next t) (ht : t.phase = .idle) : FaxJobEnds s t := by
  obtain ⟨-, ⟨-, hraise⟩ | ⟨u, -, hpaint, hmode⟩⟩ := State.uncompressedExit_next h
  · exact .raised _ hraise
  · obtain ⟨hcfg, hfail⟩ := State.sameCount_of_paint hpaint
    exact .of_endMode hmode ⟨hcfg, hfail⟩ ht

theorem FaxJobEnds.of_execUInvalid (h : execUInvalid s = .next t) : FaxJobEnds s t := by
  unfold execUInvalid at h
  split at h
  · exact .raised _ h
  · cases h

/-! ## The instructions that stand outside a fax row -/

theorem State.atLzwCode_outside_faxRow {body : State → Out} (h : s.atLzwCode body = .next t) :
    s.phase.inFaxRow = false := by
  obtain ⟨hp, -⟩ := State.atLzwCode_next h
  rw [hp]
  rfl

theorem execLzwEnd_outside_faxRow (h : execLzwEnd s = .next t) : s.phase.inFaxRow = false :=
  State.atLzwCode_outside_faxRow h

theorem execLzwInvalid_outside_faxRow {code : Nat} (h : execLzwInvalid code s = .next t) :
    s.phase.inFaxRow = false :=
  State.atLzwCode_outside_faxRow h

theorem execEofb_outside_faxRow (h : execEofb s = .next t) : s.phase.inFaxRow = false := by
  unfold execEofb at h
  split at h
  · next hp =>
    rw [hp]
    rfl
  · cases h

theorem State.takeJob_outside_faxRow {op : Op} {begin : State → State} (h : s.takeJob op begin = .next t) :
    s.phase.inFaxRow = false := by
  obtain ⟨c, hp, -⟩ := State.takeJob_next h
  rw [hp]
  rfl

/-! ## Every step of a fax decode job -/

theorem FaxJobEnds.of_exec {i : Instr} (hp : s.phase.inFaxRow = true) (h : exec i s = .next t)
    (ht : t.phase = .idle) : FaxJobEnds s t := by
  have outside (hout : s.phase.inFaxRow = false) : FaxJobEnds s t := nomatch hp.symm.trans hout
  cases hrun : i.runEntry with
  | some e => exact .of_runWord ((exec_of_runEntry hrun s).symm.trans h) ht
  | none =>
    cases i with
    | eol fill => exact .of_execEol h ht
    | tag1 => exact absurd ht (execTag1_ne_idle h)
    | tag0 => exact .of_execTag0 h ht
    | p => exact .of_execP h ht
    | h => exact absurd ht (execH_ne_idle h)
    | vl3 | vl2 | vl1 | v0 | vr1 | vr2 | vr3 => exact .of_verticalWordAt h ht
    | extU => exact absurd ht (State.enterUncompressed_ne_idle h)
    | extRes sel => exact .of_execExtRes h
    | extG3 | modeInvalid => exact .of_malformedMode h
    | uB | uWB | uWWB | uWWWB | uWWWWB | uWWWWW => exact .of_uncompressedImage h ht
    | uX0 | uX1 | uX2 | uX3 | uX4 => exact .of_uncompressedExit h ht
    | uInvalid => exact .of_execUInvalid h
    | lzwClr => exact nomatch (execLzwClr_phase h).symm.trans ht
    | lzwFirst c => exact nomatch (execLzwFirst_phase h).symm.trans ht
    | lzwEntry code => exact nomatch (execLzwEntry_phase h).symm.trans ht
    | lzwKwkwk code => exact nomatch (execLzwKwkwk_phase h).symm.trans ht
    | lzwEnd => exact outside (execLzwEnd_outside_faxRow h)
    | lzwInvalid code => exact outside (execLzwInvalid_outside_faxRow h)
    | eofb => exact outside (execEofb_outside_faxRow h)
    | jobDecodeG31D | jobDecodeG32D | jobDecodeG4 | jobDecodeLzw | jobCopyNone | jobEncodeG4 =>
      exact outside (State.takeJob_outside_faxRow h)
    | _ => cases hrun

/-- In a fax row the only events are a missing run word and a missing EOL. -/
theorem FaxJobEnds.of_handle {e : Event} (hp : s.phase.inFaxRow = true) (hf : s.fetch = .event e)
    (h : s.handle e = .next t) : FaxJobEnds s t := by
  rcases State.fetch_event hf with ⟨-, hidle, -⟩ | ⟨rfl, -⟩ | ⟨rfl, -⟩ | ⟨-, hlzw⟩
  · rw [hidle] at hp
    cases hp
  · exact .raised _ h
  · exact .missingEol (Host.Outcome.next.inj h).symm
  · rw [hlzw] at hp
    cases hp

theorem FaxJobEnds.of_step (hp : s.phase.inFaxRow = true) (h : step s = .next t) (ht : t.phase = .idle) :
    FaxJobEnds s t := by
  cases hf : s.fetch with
  | word i => exact .of_exec hp ((step_word hf).symm.trans h) ht
  | event e => exact .of_handle hp hf ((step_event hf).symm.trans h)

end Sys2Proof.Machine
end

section
/-!
PROOF of O56: the status and the failures of an ended fax decode job (60_exceptions.md R364, R365, R371), for each of
the three ways it ends.
-/
namespace Sys2Proof.Machine

variable {s t : State}

/-! ## A result under the job's policy -/

/-- The status of `r` is one that a fax job of configuration `c` may end with, and `r` counts no more failures than the
job has rows. -/
def FollowsPolicy (c : JobConfig) (r : JobResult) : Prop :=
  (c.tolerant = true → r.status = .ok ∨ r.status = .fallbackRequested) ∧
  (c.tolerant = false → r.status ≠ .fallbackRequested) ∧ r.failures ≤ c.height

/-- The job of configuration `c` has ended in `t`, and the result it has returned follows its policy. -/
def ReturnsByPolicy (c : JobConfig) (t : State) : Prop := ∃ r, t.result = some r ∧ FollowsPolicy c r

namespace ReturnsByPolicy

variable {c : JobConfig} {u : State}

theorem of_okResult (hf : u.failures ≤ c.height) : ReturnsByPolicy c (u.finish u.okResult) :=
  ⟨_, rfl, fun _ => .inl rfl, fun _ => nofun, hf⟩

theorem of_fallbackResult {f : Nat} (htol : c.tolerant = true) (hf : f ≤ c.height) :
    ReturnsByPolicy c (u.finish (u.fallbackResult f)) :=
  ⟨_, rfl, fun _ => .inr rfl, fun hstrict => absurd (htol.symm.trans hstrict) nofun, hf⟩

theorem of_errorResult {st : Status} (hstrict : c.tolerant = false) (hst : st ≠ .fallbackRequested) :
    ReturnsByPolicy c (u.finish (errorResult st)) :=
  ⟨_, rfl, fun htol => absurd (hstrict.symm.trans htol) nofun, fun _ => hst, Nat.zero_le _⟩

end ReturnsByPolicy

theorem FaxError.status_ne_fallbackRequested (e : FaxError) : e.status ≠ .fallbackRequested := by
  cases e <;> exact nofun

/-! ## The three ends -/

theorem State.returnsByPolicy_of_endLine {u : State} (hs : s.InFaxRow) (h : u.endLine = .next t)
    (hu : s.SameCount u) (ht : t.phase = .idle) : ReturnsByPolicy s.cfg t := by
  obtain ⟨r, -, rfl⟩ := State.endLine_next h
  rcases (u.withReference r).afterRow_cases with ⟨-, -, heq⟩ | ⟨-, -, heq⟩ | ⟨-, heq⟩
  · rw [heq] at ht
    cases ht
  · rw [heq] at ht
    cases ht
  · rw [heq]
    refine .of_okResult ?_
    calc u.failures = s.failures := hu.failures_eq
      _ ≤ s.row := hs.failures_le
      _ ≤ s.cfg.height := hs.row_lt.le

/-- A tolerant job that resumes after a row given up and counted ends `OK`, or falls back with the rows not reached
counted too; the failures before were earlier rows. -/
theorem State.returnsByPolicy_of_resumeFrom {u : State} (hs : s.InFaxRow) (htol : s.cfg.tolerant = true)
    (hcfg : u.cfg = s.cfg) (hrow : u.row = s.row) (hfail : u.failures = s.failures + 1) {p : Nat}
    (ht : (u.resumeFrom p).phase = .idle) : ReturnsByPolicy s.cfg (u.resumeFrom p) := by
  have hearlier := hs.failures_le
  have hlt := hs.row_lt
  rcases u.resumeFrom_cases p with ⟨q, -, -, heq⟩ | ⟨q, -, -, heq⟩ | ⟨-, heq⟩
  · rw [heq] at ht
    exact absurd ht (State.phase_afterEol_ne_idle _)
  · have hcount : u.failures ≤ s.cfg.height := by omega
    rw [heq]
    exact .of_okResult (u := { u with cur := q + 12 }) hcount
  · rw [heq]
    refine .of_fallbackResult htol ?_
    rw [hcfg, hrow, hfail]
    omega

theorem State.returnsByPolicy_of_raise (hs : s.InFaxRow) {e : FaxError} (h : s.raise e = .next t)
    (ht : t.phase = .idle) : ReturnsByPolicy s.cfg t := by
  rcases State.raise_next h with ⟨hstrict, rfl⟩ | ⟨u, hu, htol, -, rfl⟩ | ⟨u, hu, htol, -, rfl⟩
  · exact .of_errorResult hstrict e.status_ne_fallbackRequested
  · obtain ⟨hgiven, -⟩ := hs.rowGivenUp_of_clearRow hu
    refine .of_fallbackResult htol ?_
    rw [hgiven.cfg_eq]
    exact Nat.sub_le _ _
  · obtain ⟨hgiven, hfail⟩ := hs.rowGivenUp_of_clearRow hu
    exact State.returnsByPolicy_of_resumeFrom (u := { u.refInvalidated with failures := u.failures + 1 }) hs htol
      hgiven.cfg_eq hgiven.row_eq (congrArg (· + 1) hfail) ht

/-- What a missing EOL leads to under each policy (R244, R254). -/
theorem State.missingEol_by_policy (s : State) :
    (s.cfg.tolerant = false ∧ s.missingEol = s.finish (errorResult .malformedCode)) ∨
    (s.cfg.tolerant = true ∧ s.missingEol = s.finish (s.fallbackResult s.cfg.height)) ∨
    (s.cfg.tolerant = true ∧
      s.missingEol = State.resumeFrom { s.refInvalidated with failures := s.failures + 1 } s.cur) := by
  unfold State.missingEol
  split
  · next htol =>
    split
    · exact .inr (.inl ⟨htol, rfl⟩)
    · exact .inr (.inr ⟨htol, rfl⟩)
  · next hstrict => exact .inl ⟨Bool.eq_false_iff.mpr hstrict, rfl⟩

theorem State.returnsByPolicy_of_missingEol (hs : s.InFaxRow) (ht : s.missingEol.phase = .idle) :
    ReturnsByPolicy s.cfg s.missingEol := by
  rcases s.missingEol_by_policy with ⟨hstrict, heq⟩ | ⟨htol, heq⟩ | ⟨htol, heq⟩
  · rw [heq]
    exact .of_errorResult hstrict nofun
  · rw [heq]
    exact .of_fallbackResult htol le_rfl
  · rw [heq] at ht ⊢
    exact State.returnsByPolicy_of_resumeFrom (u := { s.refInvalidated with failures := s.failures + 1 }) hs htol
      rfl rfl rfl ht

theorem FaxJobEnds.returnsByPolicy (hs : s.InFaxRow) (h : FaxJobEnds s t) (ht : t.phase = .idle) :
    ReturnsByPolicy s.cfg t := by
  cases h with
  | lastLine u ends same => exact State.returnsByPolicy_of_endLine hs ends same ht
  | raised e raises => exact State.returnsByPolicy_of_raise hs raises ht
  | missingEol skips =>
    subst skips
    exact State.returnsByPolicy_of_missingEol hs ht

/-! ## The obligation -/

/-- A running fax decode job stands in one of its rows: the LZW loop and the encoder's positions are of other
operations. -/
theorem State.inFaxRow_of_running (hi : s.Inv) (hrun : s.phase ≠ .idle) (hfax : isFaxDecode s.cfg.op = true) :
    s.phase.inFaxRow = true := by
  obtain ⟨henc, hlzw, -⟩ := isFaxDecode_ne hfax
  obtain ⟨-, -, -, -, hphase⟩ := State.inv_iff.mp hi
  cases hp : s.phase with
  | lineStart | tagBit | run | modeWord | uncompressed => rfl
  | idle => exact absurd hp hrun
  | lzw => simp [State.phaseLegal, hp, hlzw] at hphase
  | encodeMode | encodeRun1 | encodeRun2 | encodeEnd =>
    simp [State.phaseLegal, State.encodingRow, hp, henc] at hphase

/-- Settles O56: the job stands in a row, ends in one of three ways, and each returns a result its policy allows. -/
theorem faxJobStatuses : Obligations.FaxJobStatuses := fun s t r hi hrun hfax hstep ht hr => by
  have hp := State.inFaxRow_of_running hi hrun hfax
  obtain ⟨r', hr', hpolicy⟩ := (FaxJobEnds.of_step hp hstep ht).returnsByPolicy (State.inv_inFaxRow hi hp) ht
  obtain rfl := Option.some_inj.mp (hr.symm.trans hr')
  exact hpolicy

end Sys2Proof.Machine
end

section
/-!
PROOF of O14: the state a job starts from (70_reset_and_hazards.md R400). Most registers are constants or copies of the
configuration; a fact is needed for the three that stand for more than they list: the reference flag, the string table
with no entry of its own, and the zeroed output buffer with no cell.
-/
namespace Sys2Proof.Machine

/-! ## The string table and the output buffer with nothing listed -/

/-- A table without added entries holds what `InitTable` puts there (46_lzw_decoder.md R302). -/
theorem LzwTable.get_nil (i : Nat) : LzwTable.get [] i = if i < 256 then some [BitVec.ofNat 8 i] else none := rfl

/-- A byte of a zeroed buffer reads 0, inside the buffer and past it (20_memory.md R66). -/
theorem Buffer.read_zeros (n a : Nat) : (Buffer.zeros n).cells.read a = 0 := rfl

/-! ## The registers that depend on the operation or on `InitTable` -/

/-- Only a Group 4 job starts with a valid reference line (44_image_decode.md R247, R251). -/
theorem State.jobStart_refValid_iff (s : State) (c : JobConfig) :
    (s.jobStart c).refValid = true ↔ c.op = .decodeG4 := by
  rw [State.jobStart, State.initTable_refValid, decide_eq_true_iff]

/-- A job starts with the table, the next index, the width and the previous code of `InitTable`. -/
theorem State.jobStart_table (s : State) (c : JobConfig) :
    (s.jobStart c).lzwTab = [] ∧ (s.jobStart c).lzwNext = 258 ∧ (s.jobStart c).lzwWidth = 9 ∧
      (s.jobStart c).lzwPrev = none :=
  ⟨State.initTable_lzwTab _, State.initTable_lzwNext _, State.initTable_lzwWidth _, State.initTable_lzwPrev _⟩

/-- A decode job and the copy start with `stride * height` bytes, every one 0. -/
theorem State.jobStart_out_zeroed (s : State) {c : JobConfig} (hop : c.op ≠ .encodeG4) :
    (s.jobStart c).out.size = c.stride * c.height ∧ ∀ a, (s.jobStart c).out.cells.read a = 0 := by
  rw [State.jobStart_out hop]
  exact ⟨rfl, Buffer.read_zeros _⟩

/-! ## The obligation -/

/-- Settles O14: the table and the buffer by their lemmas, the other registers by what the job start writes there. -/
theorem jobStartValues : Obligations.JobStartValues := fun s c => by
  obtain ⟨htab, hnext, hwidth, hprev⟩ := s.jobStart_table c
  have hget (i : Nat) : (s.jobStart c).lzwTab.get i = if i < 256 then some [BitVec.ofNat 8 i] else none := by
    rw [htab, LzwTable.get_nil]
  exact ⟨rfl, rfl, rfl, rfl, rfl, rfl, rfl, rfl, rfl, s.jobStart_refValid_iff c, hget, hnext, hwidth, hprev, rfl, rfl,
    s.jobStart_out_zeroed⟩

end Sys2Proof.Machine
end

section
/-!
Bit strings and complete codes. A code is complete up to `n` bits when every string of at least `n` bits begins with
exactly one of its words; that is decided by splitting the code at its first bit, over and over.
-/
namespace Sys2Proof.Machine

/-! ## The bits of a number and the number of bits -/

@[simp] theorem length_bitsOf (n v : Nat) : (bitsOf n v).length = n := by
  induction n with
  | zero => rfl
  | succ n ih => rw [bitsOf, List.length_cons, ih]

/-- The first bit is the most significant one (00_scope.md R10). -/
theorem getElem?_bitsOf {n i : Nat} (h : i < n) (v : Nat) : (bitsOf n v)[i]? = some (v.testBit (n - 1 - i)) := by
  induction n generalizing i with
  | zero => omega
  | succ n ih =>
    cases i with
    | zero => rfl
    | succ i =>
      rw [bitsOf, List.getElem?_cons_succ, ih (by omega)]
      congr 2
      omega

/-- The value of a bit string, written in as many bits, is the string. -/
theorem bitsOf_bitsVal (l : List Bool) : bitsOf l.length (bitsVal l) = l := by
  refine List.ext_getElem? fun i => ?_
  rcases Nat.lt_or_ge i l.length with hi | hi
  · rw [getElem?_bitsOf hi, testBit_bitsVal hi, List.getD_eq_getElem l _ hi, List.getElem?_eq_getElem hi]
  · rw [List.getElem?_eq_none hi, List.getElem?_eq_none (by rwa [length_bitsOf])]

/-- A number that fits `n` bits is the value of its `n` bits. -/
theorem bitsVal_bitsOf {n v : Nat} (h : v < 2 ^ n) : bitsVal (bitsOf n v) = v := by
  refine Nat.eq_of_testBit_eq fun j => ?_
  rcases Nat.lt_or_ge j n with hj | hj
  · have hplace : j = (bitsOf n v).length - 1 - (n - 1 - j) := by rw [length_bitsOf]; omega
    have hback : n - 1 - (n - 1 - j) = j := by omega
    conv_lhs => rw [hplace]
    rw [testBit_bitsVal (by rw [length_bitsOf]; omega), List.getD_eq_getElem?_getD, getElem?_bitsOf (by omega), hback]
    rfl
  · have hpow : 2 ^ n ≤ 2 ^ j := Nat.pow_le_pow_right (by decide) hj
    have hval := bitsVal_lt (bitsOf n v)
    rw [length_bitsOf] at hval
    rw [Nat.testBit_lt_two_pow (hval.trans_le hpow), Nat.testBit_lt_two_pow (h.trans_le hpow)]

/-! ## Complete codes -/

/-- What is left of the words that begin with `b`, after that bit. -/
def tailsAfter (b : Bool) (ws : List (List Bool)) : List (List Bool) :=
  ws.filterMap fun w => if w.head? = some b then some w.tail else none

/-- The words of a code, each at most `n` bits, split the strings of `n` bits: the empty word alone, or two complete
codes after a first bit 0 and a first bit 1. -/
def completeCode : Nat → List (List Bool) → Bool
  | 0, ws => ws == [[]]
  | n + 1, ws =>
    ws == [[]] || (!ws.contains [] && completeCode n (tailsAfter false ws) && completeCode n (tailsAfter true ws))

/-- The words that begin a string are those whose tails begin the rest of it. -/
theorem countP_tailsAfter {ws : List (List Bool)} (h : [] ∉ ws) (b : Bool) (la : List Bool) :
    ws.countP (·.isPrefixOf (b :: la)) = (tailsAfter b ws).countP (·.isPrefixOf la) := by
  induction ws with
  | nil => rfl
  | cons w ws ih =>
    rw [List.mem_cons, not_or] at h
    obtain ⟨hw, hws⟩ := h
    obtain ⟨c, w, rfl⟩ := List.exists_cons_of_ne_nil (Ne.symm hw)
    have htail := ih hws
    by_cases hc : c = b
    · simp [tailsAfter, List.countP_cons, hc] at htail ⊢
      exact htail
    · simp [tailsAfter, hc] at htail ⊢
      exact htail

/-- Exactly one word of a complete code begins a string that is long enough. -/
theorem countP_of_completeCode {n : Nat} {ws : List (List Bool)} (h : completeCode n ws = true) {la : List Bool}
    (hla : n ≤ la.length) : ws.countP (·.isPrefixOf la) = 1 := by
  induction n generalizing ws la with
  | zero =>
    obtain rfl : ws = [[]] := by simpa [completeCode] using h
    rfl
  | succ n ih =>
    simp only [completeCode, Bool.or_eq_true, Bool.and_eq_true, beq_iff_eq, Bool.not_eq_true',
      List.contains_eq_mem, decide_eq_false_iff_not] at h
    rcases h with rfl | ⟨⟨hnil, hfalse⟩, htrue⟩
    · rfl
    · cases la with
      | nil => simp at hla
      | cons b la =>
        rw [countP_tailsAfter hnil]
        cases b with
        | false => exact ih hfalse (Nat.le_of_succ_le_succ hla)
        | true => exact ih htrue (Nat.le_of_succ_le_succ hla)

/-- Where one element is counted, two counted elements are the same. -/
theorem eq_of_countP_le_one {α : Type} {p : α → Bool} {l : List α} (h : l.countP p ≤ 1) {a b : α} (ha : a ∈ l)
    (hpa : p a = true) (hb : b ∈ l) (hpb : p b = true) : a = b := by
  rw [List.countP_eq_length_filter] at h
  have hfa : a ∈ l.filter p := List.mem_filter.mpr ⟨ha, hpa⟩
  have hfb : b ∈ l.filter p := List.mem_filter.mpr ⟨hb, hpb⟩
  match hf : l.filter p with
  | [] => rw [hf] at hfa; cases hfa
  | [c] =>
    rw [hf, List.mem_singleton] at hfa hfb
    rw [hfa, hfb]
  | c :: d :: r =>
    rw [hf] at h
    simp at h

theorem countP_pos_of_mem {α : Type} {p : α → Bool} {l : List α} {a : α} (ha : a ∈ l) (hpa : p a = true) :
    1 ≤ l.countP p := List.countP_pos_iff.mpr ⟨a, ha, hpa⟩

/-! ## The look-ahead -/

/-- A word that begins with another begins no string the other does not begin. -/
theorem isPrefixOf_trans {u v la : List Bool} (huv : u.isPrefixOf v = true) (hv : v.isPrefixOf la = true) :
    u.isPrefixOf la = true := by
  rw [List.isPrefixOf_iff_prefix] at *
  exact huv.trans hv

theorem isPrefixOf_append (w r : List Bool) : w.isPrefixOf (w ++ r) = true :=
  List.isPrefixOf_iff_prefix.mpr (List.prefix_append w r)

theorem isPrefixOf_padded_append (w r : List Bool) : w.isPrefixOf (padded (w ++ r)) = true := by
  rw [padded, List.append_assoc]
  exact isPrefixOf_append w _

/-- The zeros after the bits add no word that fits the bits. -/
theorem isPrefixOf_padded {w la : List Bool} (h : w.length ≤ la.length) :
    w.isPrefixOf (padded la) = w.isPrefixOf la := by
  rw [Bool.eq_iff_iff, List.isPrefixOf_iff_prefix, List.isPrefixOf_iff_prefix, padded]
  exact ⟨fun hp => List.prefix_of_prefix_length_le hp (List.prefix_append la _) h,
    fun hp => hp.trans (List.prefix_append la _)⟩

theorem thirteen_le_length_padded (bits : List Bool) : 13 ≤ (padded bits).length := by
  simp [padded]

end Sys2Proof.Machine
end

section
/-!
PROOF of O3: the run space (41_run_length_codes.md R147 to R152). The run words of a colour, the EOL and four patterns
form a complete code of 13 bits: a look-ahead begins with one of them and with no other.
-/
namespace Sys2Proof.Machine

/-- The four patterns that begin no run word and no EOL (R148). -/
def invalidRunPatterns : List (List Bool) := [bitsOf 9 1, bitsOf 10 1, bitsOf 11 1, bitsOf 12 0]

/-- All a look-ahead in a run of colour `c` can begin with. -/
def runCode (c : Color) : List (List Bool) := (runWords c).map (encode 0) ++ (eolWord :: invalidRunPatterns)

theorem completeCode_runCode (c : Color) : completeCode 13 (runCode c) = true := by
  cases c <;> decide +kernel

/-- A look-ahead begins with one run word, or the EOL, or one of the four patterns. -/
theorem countP_runCode (c : Color) {la : List Bool} (hla : 13 ≤ la.length) :
    (runWords c).countP (fun i => (encode 0 i).isPrefixOf la) +
      (invalidRunPatterns.countP (·.isPrefixOf la) + if eolWord.isPrefixOf la = true then 1 else 0) = 1 := by
  have h := countP_of_completeCode (completeCode_runCode c) hla
  rwa [runCode, List.countP_append, List.countP_map, List.countP_cons] at h

/-- The run words have entries of their colour's space, and their bits do not depend on the LZW width. -/
theorem runWords_entries (c : Color) :
    ∀ i ∈ runWords c, (Space.run c).admits i = true ∧ i.runEntry.isSome = true ∧ encode 9 i = encode 0 i := by
  cases c <;> decide +kernel

theorem startsWith_runWord {c : Color} {i : Instr} (h : i ∈ runWords c) (la : List Bool) :
    startsWith la i = (encode 0 i).isPrefixOf la := by
  obtain ⟨-, -, hbits⟩ := runWords_entries c i h
  rw [startsWith, hbits]

theorem startsWith_eol (la : List Bool) : startsWith la (.eol 0) = eolWord.isPrefixOf la := rfl

theorem decodeRun_of_eol (c : Color) {la : List Bool} (h : eolWord.isPrefixOf la = true) :
    decodeRun c la = .word (.eol 0) := by
  rw [decodeRun, startsWith_eol, if_pos h]

/-- A run word at the start of the look-ahead is read as itself. -/
theorem decodeRun_of_runWord {c : Color} {i : Instr} {la : List Bool} (hla : 13 ≤ la.length) (hi : i ∈ runWords c)
    (h : (encode 0 i).isPrefixOf la = true) : decodeRun c la = .word i := by
  have hcount := countP_runCode c hla
  have hone := countP_pos_of_mem (p := fun i => (encode 0 i).isPrefixOf la) hi h
  have heol : ¬eolWord.isPrefixOf la = true := fun he => by rw [if_pos he] at hcount; omega
  rw [decodeRun, startsWith_eol, if_neg heol]
  cases hf : (runWords c).find? (startsWith la) with
  | none => exact absurd ((startsWith_runWord hi la).trans h) (List.find?_eq_none.mp hf i hi)
  | some j =>
    have hj := List.mem_of_find?_eq_some hf
    have hstart : startsWith la j = true := List.find?_some hf
    rw [startsWith_runWord hj] at hstart
    rw [eq_of_countP_le_one (p := fun i => (encode 0 i).isPrefixOf la) (by omega) hj hstart hi h]

/-- What is read in a run space begins the look-ahead. -/
theorem decodeRun_word {c : Color} {i : Instr} {la : List Bool} (h : decodeRun c la = .word i) :
    (i = .eol 0 ∨ i ∈ runWords c) ∧ (encode 0 i).isPrefixOf la = true := by
  rw [decodeRun] at h
  split at h
  · next heol =>
    cases h
    exact ⟨.inl rfl, heol⟩
  · split at h
    · next j hf =>
      cases h
      have hi := List.mem_of_find?_eq_some hf
      have hstart : startsWith la i = true := List.find?_some hf
      exact ⟨.inr hi, startsWith_runWord hi la ▸ hstart⟩
    · cases h

theorem decodeRun_reject_iff_no_word {c : Color} {la : List Bool} :
    decodeRun c la = .reject .noRunWord ↔
      eolWord.isPrefixOf la = false ∧ ∀ i ∈ runWords c, (encode 0 i).isPrefixOf la = false := by
  rw [decodeRun, startsWith_eol]
  constructor
  · intro h
    split at h
    · cases h
    · next heol =>
      split at h
      · cases h
      · next hf =>
        refine ⟨Bool.eq_false_iff.mpr heol, fun i hi => Bool.eq_false_iff.mpr ?_⟩
        rw [← startsWith_runWord hi]
        exact List.find?_eq_none.mp hf i hi
  · rintro ⟨heol, hwords⟩
    have hnone : (runWords c).find? (startsWith la) = none := List.find?_eq_none.mpr fun i hi => by
      rw [startsWith_runWord hi, hwords i hi]
      exact Bool.false_ne_true
    rw [if_neg (Bool.eq_false_iff.mp heol), hnone]

/-- No run word and no EOL is read exactly where the look-ahead begins with one of the four patterns (R148). -/
theorem decodeRun_reject_iff {c : Color} {la : List Bool} (hla : 13 ≤ la.length) :
    decodeRun c la = .reject .noRunWord ↔ ∃ w ∈ invalidRunPatterns, w.isPrefixOf la = true := by
  have hcount := countP_runCode c hla
  rw [decodeRun_reject_iff_no_word]
  constructor
  · rintro ⟨heol, hwords⟩
    have hnone : (runWords c).countP (fun i => (encode 0 i).isPrefixOf la) = 0 :=
      List.countP_eq_zero.mpr fun i hi => Bool.eq_false_iff.mp (hwords i hi)
    rw [hnone, if_neg (Bool.eq_false_iff.mp heol)] at hcount
    exact List.countP_pos_iff.mp (by omega)
  · rintro ⟨w, hw, hstart⟩
    have hone := countP_pos_of_mem (p := (·.isPrefixOf la)) hw hstart
    refine ⟨Bool.eq_false_iff.mpr fun he => ?_, fun i hi => Bool.eq_false_iff.mpr fun h => ?_⟩
    · rw [if_pos he] at hcount
      omega
    · have htwo := countP_pos_of_mem (p := fun i => (encode 0 i).isPrefixOf la) hi h
      omega

/-- No run word begins with eight zeros (R148). -/
theorem runWord_not_eight_zeros (c : Color) :
    ∀ i ∈ runWords c, (bitsOf 8 0).isPrefixOf (encode 0 i) = false ∧ (encode 0 i).isPrefixOf (bitsOf 8 0) = false := by
  cases c <;> decide +kernel

theorem exists_invalidRunPattern_iff {p : List Bool → Prop} :
    (∃ w ∈ invalidRunPatterns, p w) ↔ p (bitsOf 9 1) ∨ p (bitsOf 10 1) ∨ p (bitsOf 11 1) ∨ p (bitsOf 12 0) := by
  simp only [invalidRunPatterns, List.mem_cons, List.not_mem_nil, or_false, exists_eq_or_imp, exists_eq_left]

/-- Settles O3: the eight zeros and a run word exclude each other, and the code is complete. -/
theorem runSpaceInvalidPatterns : Obligations.RunSpaceInvalidPatterns := fun c la hla => by
  refine ⟨fun hzeros _ i hi => Bool.eq_false_iff.mpr fun h => ?_, ?_⟩
  · obtain ⟨hlonger, hshorter⟩ := runWord_not_eight_zeros c i hi
    rw [List.isPrefixOf_iff_prefix] at h hzeros
    rcases List.prefix_or_prefix_of_prefix h hzeros with hp | hp
    · exact Bool.eq_false_iff.mp hshorter (List.isPrefixOf_iff_prefix.mpr hp)
    · exact Bool.eq_false_iff.mp hlonger (List.isPrefixOf_iff_prefix.mpr hp)
  · have hpad : ∀ w ∈ invalidRunPatterns, w.isPrefixOf (padded la) = w.isPrefixOf la := fun w hw =>
      isPrefixOf_padded (by
        rw [hla]
        exact (by decide : ∀ w ∈ invalidRunPatterns, w.length ≤ 13) w hw)
    rw [decode, decodeRun_reject_iff (thirteen_le_length_padded la)]
    calc (∃ w ∈ invalidRunPatterns, w.isPrefixOf (padded la) = true)
      _ ↔ ∃ w ∈ invalidRunPatterns, w.isPrefixOf la = true :=
        exists_congr fun w => and_congr_right fun hw => by rw [hpad w hw]
      _ ↔ _ := exists_invalidRunPattern_iff (p := fun w => w.isPrefixOf la = true)

end Sys2Proof.Machine
end

section
/-!
The other code spaces: what a mode space, uncompressed mode and the LZW reader read (43_line_decoder_2d.md R203, R204,
R220; 46_lzw_decoder.md R300, R304).
-/
namespace Sys2Proof.Machine

/-! ## A mode space -/

/-- The mode words, the extension and the seven zeros: all a look-ahead in a mode space can begin with. -/
def modeCode : List (List Bool) := modeWords.map (encode 0) ++ [bitsOf 7 1, bitsOf 7 0]

theorem completeCode_modeCode : completeCode 7 modeCode = true := by decide +kernel

theorem countP_modeCode {la : List Bool} (hla : 13 ≤ la.length) :
    modeWords.countP (fun i => (encode 0 i).isPrefixOf la) +
      ((if (bitsOf 7 0).isPrefixOf la = true then 1 else 0) +
        if (bitsOf 7 1).isPrefixOf la = true then 1 else 0) = 1 := by
  have h := countP_of_completeCode completeCode_modeCode (la := la) (by omega)
  rwa [modeCode, List.countP_append, List.countP_map, List.countP_cons, List.countP_cons, List.countP_nil,
    Nat.zero_add] at h

theorem modeWords_bits : ∀ i ∈ modeWords, encode 9 i = encode 0 i := by decide +kernel

theorem startsWith_modeWord {i : Instr} (h : i ∈ modeWords) (la : List Bool) :
    startsWith la i = (encode 0 i).isPrefixOf la := by
  rw [startsWith, modeWords_bits i h]

/-- An EOL begins with seven zeros. -/
theorem seven_zeros_of_eol {la : List Bool} (h : eolWord.isPrefixOf la = true) :
    (bitsOf 7 0).isPrefixOf la = true := isPrefixOf_trans (by decide) h

theorem decodeMode_of_eol (g4 : Bool) {la : List Bool} (h : eolWord.isPrefixOf la = true) :
    decodeMode g4 la = .eol 0 := by
  rw [decodeMode, startsWith_eol, if_pos h]

/-- A mode word at the start of the look-ahead is read as itself. -/
theorem decodeMode_of_modeWord (g4 : Bool) {i : Instr} {la : List Bool} (hla : 13 ≤ la.length) (hi : i ∈ modeWords)
    (h : (encode 0 i).isPrefixOf la = true) : decodeMode g4 la = i := by
  have hcount := countP_modeCode hla
  have hone := countP_pos_of_mem (p := fun i => (encode 0 i).isPrefixOf la) hi h
  have heol : ¬eolWord.isPrefixOf la = true := fun he => by
    rw [if_pos (seven_zeros_of_eol he)] at hcount
    omega
  rw [decodeMode, startsWith_eol, if_neg heol]
  cases hf : modeWords.find? (startsWith la) with
  | none => exact absurd ((startsWith_modeWord hi la).trans h) (List.find?_eq_none.mp hf i hi)
  | some j =>
    have hj := List.mem_of_find?_eq_some hf
    have hstart : startsWith la j = true := List.find?_some hf
    rw [startsWith_modeWord hj] at hstart
    exact eq_of_countP_le_one (p := fun i => (encode 0 i).isPrefixOf la) (by omega) hj hstart hi h

/-- Where no mode word begins the look-ahead none is found. -/
theorem find?_modeWords_eq_none {la : List Bool} (h : modeWords.countP (fun i => (encode 0 i).isPrefixOf la) = 0) :
    modeWords.find? (startsWith la) = none :=
  List.find?_eq_none.mpr fun i hi => by
    rw [startsWith_modeWord hi]
    exact List.countP_eq_zero.mp h i hi

/-- The extension is read by its selector and the line (R216, R217, R219). -/
theorem decodeMode_of_extension (g4 : Bool) {la : List Bool} (hla : 13 ≤ la.length)
    (h : (bitsOf 7 1).isPrefixOf la = true) :
    decodeMode g4 la =
      if !g4 then .extG3 (extSelector la) else if extSelector la = 7#3 then .extU else .extRes (extSelector la) := by
  have hcount := countP_modeCode hla
  rw [if_pos h] at hcount
  have heol : ¬eolWord.isPrefixOf la = true := fun he => by
    rw [if_pos (seven_zeros_of_eol he)] at hcount
    omega
  rw [decodeMode, startsWith_eol, if_neg heol, find?_modeWords_eq_none (by omega)]
  exact if_pos h

/-- Seven zeros that begin no EOL are no mode word (R218). -/
theorem decodeMode_of_zeros (g4 : Bool) {la : List Bool} (hla : 13 ≤ la.length)
    (h : (bitsOf 7 0).isPrefixOf la = true) (heol : eolWord.isPrefixOf la = false) :
    decodeMode g4 la = .modeInvalid (la.getD 7 false) := by
  have hcount := countP_modeCode hla
  rw [if_pos h] at hcount
  have hext : ¬(bitsOf 7 1).isPrefixOf la = true := fun he => by
    rw [if_pos he] at hcount
    omega
  rw [decodeMode, startsWith_eol, if_neg (Bool.eq_false_iff.mp heol), find?_modeWords_eq_none (by omega)]
  exact if_neg hext

/-- A look-ahead in a mode space begins with a mode word, the extension or seven zeros. -/
theorem modeLookAhead_cases {la : List Bool} (hla : 13 ≤ la.length) :
    (∃ i ∈ modeWords, (encode 0 i).isPrefixOf la = true) ∨ (bitsOf 7 1).isPrefixOf la = true ∨
      (bitsOf 7 0).isPrefixOf la = true := by
  have hcount := countP_modeCode hla
  by_cases hext : (bitsOf 7 1).isPrefixOf la = true
  · exact .inr (.inl hext)
  · by_cases hzeros : (bitsOf 7 0).isPrefixOf la = true
    · exact .inr (.inr hzeros)
    · rw [if_neg hext, if_neg hzeros] at hcount
      exact .inl (List.countP_pos_iff.mp (by omega))

/-- The selector is the three bits after the extension's seven (R216). -/
theorem extSelector_append (sel : BitVec 3) (r : List Bool) :
    extSelector (bitsOf 7 1 ++ bitsOf 3 sel.toNat ++ r) = sel := by
  have hbits : ((bitsOf 7 1 ++ bitsOf 3 sel.toNat ++ r).drop 7).take 3 = bitsOf 3 sel.toNat := by
    rw [List.append_assoc, List.drop_append_of_le_length (by simp), List.drop_eq_nil_of_le (by simp), List.nil_append,
      List.take_append_of_le_length (by simp), List.take_of_length_le (by simp)]
  rw [extSelector, hbits, bitsVal_bitsOf sel.isLt, BitVec.ofNat_toNat, BitVec.setWidth_eq]

/-- The extension and the bits of its selector begin the look-ahead. -/
theorem extension_bits {la : List Bool} (hla : 13 ≤ la.length) (h : (bitsOf 7 1).isPrefixOf la = true) :
    (bitsOf 7 1 ++ bitsOf 3 (extSelector la).toNat).isPrefixOf la = true := by
  obtain ⟨r, rfl⟩ := List.isPrefixOf_iff_prefix.mp h
  have hlen : 3 ≤ r.length := by
    rw [List.length_append, length_bitsOf] at hla
    omega
  have hthree : (r.take 3).length = 3 := by simpa using hlen
  have hval := bitsVal_lt (r.take 3)
  rw [hthree] at hval
  have hsel : (extSelector (bitsOf 7 1 ++ r)).toNat = bitsVal (r.take 3) := by
    rw [extSelector, List.drop_append_of_le_length (by simp), List.drop_eq_nil_of_le (by simp), List.nil_append,
      BitVec.toNat_ofNat, Nat.mod_eq_of_lt hval]
  have hback := bitsOf_bitsVal (r.take 3)
  rw [hthree] at hback
  rw [hsel, hback, List.isPrefixOf_iff_prefix, List.prefix_append_right_inj]
  exact List.take_prefix 3 r

/-! ## Uncompressed mode -/

/-- Up to its first 1 a string is its leading zeros. -/
theorem eq_leadingZeros_append {l : List Bool} (h : leadingZeros l < l.length) :
    ∃ r, l = List.replicate (leadingZeros l) false ++ true :: r := by
  induction l with
  | nil => cases h
  | cons b l ih =>
    cases b with
    | true => exact ⟨l, rfl⟩
    | false =>
      obtain ⟨r, hr⟩ := ih (Nat.lt_of_succ_lt_succ h)
      exact ⟨r, by rw [leadingZeros, List.replicate_succ, List.cons_append, ← hr]⟩

theorem leadingZeros_zeros_append (z : Nat) (r : List Bool) :
    leadingZeros (List.replicate z false ++ true :: r) = z :=
  leadingZeros_eq (fun j hj => by rw [List.getElem?_append_left (by simpa using hj)]; simp [hj]) (by simp)

/-! ## The LZW reader -/

/-- The bits read are those of the code (R300, R301). -/
theorem bitsVal_take_bitsOf {width v : Nat} (h : v < 2 ^ width) (r : List Bool) :
    bitsVal ((bitsOf width v ++ r).take width) = v := by
  rw [List.take_append_of_le_length (by simp), List.take_of_length_le (by simp), bitsVal_bitsOf h]

/-- The bits of the code read begin the stream. -/
theorem bitsOf_bitsVal_take {width : Nat} {bits : List Bool} (h : width ≤ bits.length) :
    (bitsOf width (bitsVal (bits.take width))).isPrefixOf (padded bits) = true := by
  have hlen : (bits.take width).length = width := by simpa using h
  have hback := bitsOf_bitsVal (bits.take width)
  rw [hlen] at hback
  rw [hback, List.isPrefixOf_iff_prefix]
  exact (List.take_prefix width bits).trans (List.prefix_append bits _)

end Sys2Proof.Machine
end

section
/-!
PROOF of O1, O2, O4 and O6: decoding and encoding (30_encoding.md R90 to R97). In every space the instructions admitted
are listed, and each is what the decoder reads from its own word; what the decoder reads is admitted and is in the bits.
-/
namespace Sys2Proof.Machine

set_option Elab.async false

/-! ## The instructions of the spaces -/

/-- The place of an entry in the tables of a colour: its run, or the number of its 64s. -/
def wordOfEntry (c : Color) (e : RunEntry) : Option Instr :=
  if e.terminating then (terminatingWords c)[e.run]? else (makeupWords c)[e.run / 64 - 1]?

/-- Each run word stands at its place in the tables of every colour that uses it (R141 to R145). -/
theorem wordOfEntry_of_runEntry {c : Color} {i : Instr} {e : RunEntry} (h : i.runEntry = some e)
    (hs : runSpaceHas e.space c = true) : wordOfEntry c e = some i := by
  cases i <;> cases h <;> cases c <;> first | rfl | cases hs

theorem mem_runWords_of_runEntry {c : Color} {i : Instr} {e : RunEntry} (h : i.runEntry = some e)
    (hs : runSpaceHas e.space c = true) : i ∈ runWords c := by
  have hplace := wordOfEntry_of_runEntry h hs
  rw [wordOfEntry] at hplace
  split at hplace
  · exact List.mem_append_left _ (List.mem_of_getElem? hplace)
  · exact List.mem_append_right _ (List.mem_of_getElem? hplace)

theorem admits_run {c : Color} {i : Instr} (h : (Space.run c).admits i = true) : i = .eol 0 ∨ i ∈ runWords c := by
  cases i with
  | eol z => exact .inl (congrArg Instr.eol (of_decide_eq_true h))
  | _ =>
    first
    | exact .inr (mem_runWords_of_runEntry rfl h)
    | exact nomatch (h : false = true)

theorem admits_mode {g4 : Bool} {i : Instr} (h : (Space.mode g4).admits i = true) :
    i = .eol 0 ∨ i ∈ modeWords ∨ (∃ x, i = .modeInvalid x) ∨ (g4 = true ∧ i = .extU) ∨
      (g4 = true ∧ ∃ sel, sel ≠ 7#3 ∧ i = .extRes sel) ∨ (g4 = false ∧ ∃ sel, i = .extG3 sel) := by
  cases i with
  | eol z => exact .inl (congrArg Instr.eol (of_decide_eq_true h))
  | modeInvalid x => exact .inr (.inr (.inl ⟨x, rfl⟩))
  | extU => exact .inr (.inr (.inr (.inl ⟨h, rfl⟩)))
  | extRes sel =>
    obtain ⟨hg4, hsel⟩ := (Bool.and_eq_true _ _).mp h
    exact .inr (.inr (.inr (.inr (.inl ⟨hg4, sel, of_decide_eq_true hsel, rfl⟩))))
  | extG3 sel => exact .inr (.inr (.inr (.inr (.inr ⟨(Bool.not_eq_true' _).mp h, sel, rfl⟩))))
  | _ => exact .inr (.inl (of_decide_eq_true h))

theorem modeWords_admitted (g4 : Bool) : ∀ i ∈ modeWords, (Space.mode g4).admits i = true := by
  cases g4 <;> decide +kernel

/-- The instructions of uncompressed mode: `z` zeros, a 1, and a tag after six zeros or more (R220); or eleven zeros. -/
def uncompressedWord (t : Bool) : Nat → Instr
  | 0 => .uB
  | 1 => .uWB
  | 2 => .uWWB
  | 3 => .uWWWB
  | 4 => .uWWWWB
  | 5 => .uWWWWW
  | 6 => .uX0 t
  | 7 => .uX1 t
  | 8 => .uX2 t
  | 9 => .uX3 t
  | 10 => .uX4 t
  | _ => .uInvalid

theorem decodeUncompressed_eq (la : List Bool) :
    decodeUncompressed la = uncompressedWord (la.getD (leadingZeros la + 1) false) (leadingZeros la) := by
  unfold decodeUncompressed uncompressedWord
  split <;> simp_all

theorem uncompressedWord_admitted (t : Bool) (z : Nat) : Space.uncompressed.admits (uncompressedWord t z) = true := by
  unfold uncompressedWord
  split <;> rfl

theorem admits_uncompressed {i : Instr} (h : Space.uncompressed.admits i = true) :
    ∃ t z, z ≤ 11 ∧ i = uncompressedWord t z := by
  cases i with
  | uB => exact ⟨false, 0, by decide, rfl⟩
  | uWB => exact ⟨false, 1, by decide, rfl⟩
  | uWWB => exact ⟨false, 2, by decide, rfl⟩
  | uWWWB => exact ⟨false, 3, by decide, rfl⟩
  | uWWWWB => exact ⟨false, 4, by decide, rfl⟩
  | uWWWWW => exact ⟨false, 5, by decide, rfl⟩
  | uX0 t => exact ⟨t, 6, by decide, rfl⟩
  | uX1 t => exact ⟨t, 7, by decide, rfl⟩
  | uX2 t => exact ⟨t, 8, by decide, rfl⟩
  | uX3 t => exact ⟨t, 9, by decide, rfl⟩
  | uX4 t => exact ⟨t, 10, by decide, rfl⟩
  | uInvalid => exact ⟨false, 11, by decide, rfl⟩
  | _ => exact nomatch (h : false = true)

/-- The bits of an uncompressed word: its zeros, the 1, and the tag bit from six zeros on (R220). -/
theorem encode_uncompressedWord (t : Bool) {z : Nat} (h : z ≤ 10) :
    encode 0 (uncompressedWord t z) = List.replicate z false ++ true :: if 6 ≤ z then [t] else [] := by
  interval_cases z <;> cases t <;> rfl

theorem encode_uncompressedWord_eleven (t : Bool) : encode 0 (uncompressedWord t 11) = List.replicate 11 false := rfl

/-! ## The instruction of a word is read from it -/

/-- An EOL is its fill, eleven zeros and a 1. -/
theorem encode_eol_append (width z : Nat) (r : List Bool) :
    encode width (.eol z) ++ r = List.replicate (z + 11) false ++ true :: r := by
  have hword : eolWord = List.replicate 11 false ++ [true] := rfl
  have hencode : encode width (.eol z) = List.replicate z false ++ eolWord := rfl
  rw [hencode, hword, List.replicate_add]
  simp only [List.append_assoc, List.singleton_append]

theorem decodeFrame_of_eol {fill : Bool} {z : Nat} (h : fill = true ∨ z = 0) (width : Nat) (r : List Bool) :
    decodeFrame fill (encode width (.eol z) ++ r) = .word (.eol z) := by
  cases fill with
  | true =>
    rw [encode_eol_append]
    have hzeros := leadingZeros_zeros_append (z + 11) r
    simp [decodeFrame, hzeros]
  | false =>
    obtain rfl := h.resolve_left Bool.false_ne_true
    rw [decodeFrame, if_neg Bool.false_ne_true]
    exact if_pos (isPrefixOf_append eolWord r)

theorem decodeMode_of_admitted {g4 : Bool} {i : Instr} {r : List Bool} (h : (Space.mode g4).admits i = true)
    (heol : i = .modeInvalid false → eolWord.isPrefixOf (padded (encode 0 i ++ r)) = false) :
    decodeMode g4 (padded (encode 0 i ++ r)) = i := by
  have hla := thirteen_le_length_padded (encode 0 i ++ r)
  have hstart := isPrefixOf_padded_append (encode 0 i) r
  have hsel (sel : BitVec 3) : extSelector (padded (bitsOf 7 1 ++ bitsOf 3 sel.toNat ++ r)) = sel := by
    rw [padded, List.append_assoc, extSelector_append]
  rcases admits_mode h with rfl | hi | ⟨x, rfl⟩ | ⟨rfl, rfl⟩ | ⟨rfl, sel, hne, rfl⟩ | ⟨rfl, sel, rfl⟩
  · exact decodeMode_of_eol g4 hstart
  · exact decodeMode_of_modeWord g4 hla hi hstart
  · have hno : eolWord.isPrefixOf (padded (encode 0 (.modeInvalid x) ++ r)) = false := by
      cases x with
      | false => exact heol rfl
      | true => rfl
    exact decodeMode_of_zeros g4 hla (isPrefixOf_trans (isPrefixOf_append _ _) hstart) hno
  · refine (decodeMode_of_extension true hla (isPrefixOf_trans (by decide) hstart)).trans ?_
    have hs : extSelector (padded (encode 0 .extU ++ r)) = 7#3 := hsel 7#3
    rw [hs]
    rfl
  · refine (decodeMode_of_extension true hla (isPrefixOf_trans (isPrefixOf_append _ _) hstart)).trans ?_
    have hs : extSelector (padded (encode 0 (.extRes sel) ++ r)) = sel := hsel sel
    rw [hs]
    exact if_neg hne
  · refine (decodeMode_of_extension false hla (isPrefixOf_trans (isPrefixOf_append _ _) hstart)).trans ?_
    exact congrArg Instr.extG3 (hsel sel)

theorem decodeUncompressed_of_admitted {i : Instr} (h : Space.uncompressed.admits i = true) (r : List Bool) :
    decodeUncompressed (padded (encode 0 i ++ r)) = i := by
  obtain ⟨t, z, hz, rfl⟩ := admits_uncompressed h
  rcases hz.eq_or_lt with rfl | hz
  · refine decodeUncompressed_of_eleven_zeros (le_leadingZeros fun j hj => ?_)
    rw [encode_uncompressedWord_eleven, padded, List.append_assoc, List.getElem?_append_left (by simpa using hj),
      List.getElem?_replicate,
      if_pos hj]
  · rw [decodeUncompressed_eq, encode_uncompressedWord t (by omega), padded]
    simp only [List.append_assoc, List.cons_append, leadingZeros_zeros_append]
    by_cases hsix : 6 ≤ z
    · rw [if_pos hsix, List.getD_append_right _ _ _ _ (by simp)]
      simp
    · rw [if_neg hsix]
      interval_cases z <;> rfl

theorem decodeLzw_of_admitted {width next : Nat} {fresh : Bool} {i : Instr}
    (h : (Space.lzw width next fresh).admits i = true) (r : List Bool) :
    decodeLzw next fresh (bitsVal ((encode width i ++ r).take width)) = i := by
  cases i with
  | lzwClr =>
    have hbits : encode width .lzwClr = bitsOf width 256 := rfl
    rw [hbits, bitsVal_take_bitsOf (of_decide_eq_true h)]
    rfl
  | lzwEnd =>
    have hbits : encode width .lzwEnd = bitsOf width 257 := rfl
    rw [hbits, bitsVal_take_bitsOf (of_decide_eq_true h)]
    rfl
  | lzwFirst c =>
    simp only [Space.admits, Bool.and_eq_true, decide_eq_true_eq] at h
    obtain ⟨⟨rfl, hc⟩, hfits⟩ := h
    have hbits : encode width (.lzwFirst c) = bitsOf width c := rfl
    rw [hbits, bitsVal_take_bitsOf hfits, decodeLzw, if_neg (by omega), if_neg (by omega), if_pos rfl,
      if_neg (by omega)]
  | lzwEntry code =>
    simp only [Space.admits, Bool.and_eq_true, Bool.not_eq_true', decide_eq_true_eq] at h
    obtain ⟨⟨⟨⟨rfl, hlt⟩, hclear⟩, hend⟩, hfits⟩ := h
    have hbits : encode width (.lzwEntry code) = bitsOf width code := rfl
    rw [hbits, bitsVal_take_bitsOf hfits, decodeLzw, if_neg hend, if_neg hclear, if_neg Bool.false_ne_true,
      if_pos hlt]
  | lzwKwkwk code =>
    simp only [Space.admits, Bool.and_eq_true, Bool.not_eq_true', decide_eq_true_eq] at h
    obtain ⟨⟨⟨rfl, rfl⟩, h258⟩, hfits⟩ := h
    have hbits : encode width (.lzwKwkwk code) = bitsOf width code := rfl
    rw [hbits, bitsVal_take_bitsOf hfits, decodeLzw, if_neg (by omega), if_neg (by omega), if_neg Bool.false_ne_true,
      if_neg (lt_irrefl code), if_pos rfl]
  | lzwInvalid code =>
    simp only [Space.admits, Bool.and_eq_true, Bool.or_eq_true, decide_eq_true_eq] at h
    obtain ⟨⟨h258, hbeyond⟩, hfits⟩ := h
    have hbits : encode width (.lzwInvalid code) = bitsOf width code := rfl
    rw [hbits, bitsVal_take_bitsOf hfits, decodeLzw, if_neg (by omega), if_neg (by omega)]
    cases fresh with
    | true => rw [if_pos rfl, if_pos h258]
    | false =>
      have hlt := hbeyond.resolve_left Bool.false_ne_true
      rw [if_neg Bool.false_ne_true, if_neg (by omega), if_neg (by omega)]
  | _ => exact nomatch (h : false = true)

/-- Settles O1: space by space, the word of an admitted instruction is read as that instruction. -/
theorem decodeInvertsEncode : Obligations.DecodeInvertsEncode := fun sp i r h heol => by
  cases sp with
  | frame fill =>
    cases i with
    | eol z => exact decodeFrame_of_eol (by simpa [Space.admits] using h) 0 r
    | _ => exact nomatch (h : false = true)
  | tag =>
    cases i with
    | tag1 | tag0 => rfl
    | _ => exact nomatch (h : false = true)
  | run c =>
    have hstart := isPrefixOf_padded_append (encode 0 i) r
    rcases admits_run h with rfl | hi
    · exact decodeRun_of_eol c hstart
    · exact decodeRun_of_runWord (thirteen_le_length_padded _) hi hstart
  | mode g4 => exact congrArg Decoded.word (decodeMode_of_admitted h heol)
  | uncompressed => exact congrArg Decoded.word (decodeUncompressed_of_admitted h r)
  | lzw width next fresh => exact congrArg Decoded.word (decodeLzw_of_admitted h r)
  | endOfBlock =>
    cases i with
    | eofb =>
      rw [decode]
      exact if_pos (isPrefixOf_append (eolWord ++ eolWord) r)
    | _ => exact nomatch (h : false = true)

/-! ## What is read is admitted, and in the bits -/

theorem decodeFrame_word {fill : Bool} {bits : List Bool} {i : Instr} (h : decodeFrame fill bits = .word i) :
    ∃ z, i = .eol z ∧ (fill = true ∨ z = 0) ∧ (encode 0 (.eol z)).isPrefixOf (padded bits) = true := by
  cases fill with
  | true =>
    simp only [decodeFrame, if_true, Bool.and_eq_true, decide_eq_true_eq] at h
    split at h
    · next hone =>
      obtain ⟨hlt, heleven⟩ := hone
      cases h
      refine ⟨_, rfl, .inl rfl, ?_⟩
      obtain ⟨r, hr⟩ := eq_leadingZeros_append hlt
      have hbits : encode 0 (.eol (leadingZeros bits - 11)) ++ r = bits := by
        rw [encode_eol_append, Nat.sub_add_cancel heleven, ← hr]
      have hstart := isPrefixOf_padded_append (encode 0 (.eol (leadingZeros bits - 11))) r
      rwa [hbits] at hstart
    · cases h
  | false =>
    rw [decodeFrame, if_neg Bool.false_ne_true] at h
    split at h
    · next hword =>
      cases h
      refine ⟨0, rfl, .inr rfl, isPrefixOf_trans hword ?_⟩
      exact isPrefixOf_append bits _
    · cases h

theorem decodeMode_admitted (g4 : Bool) {la : List Bool} (hla : 13 ≤ la.length) :
    (Space.mode g4).admits (decodeMode g4 la) = true ∧ (encode 0 (decodeMode g4 la)).isPrefixOf la = true := by
  rcases modeLookAhead_cases hla with ⟨i, hi, hstart⟩ | hext | hzeros
  · rw [decodeMode_of_modeWord g4 hla hi hstart]
    exact ⟨modeWords_admitted g4 i hi, hstart⟩
  · have hbits := extension_bits hla hext
    rw [decodeMode_of_extension g4 hla hext]
    cases g4 with
    | true =>
      by_cases hsel : extSelector la = 7#3
      · rw [hsel] at hbits
        simp only [hsel]
        exact ⟨rfl, hbits⟩
      · simp only [Bool.not_true, Bool.false_eq_true, if_false, if_neg hsel]
        exact ⟨by simpa [Space.admits] using hsel, hbits⟩
    | false => exact ⟨rfl, hbits⟩
  · cases heol : eolWord.isPrefixOf la with
    | true =>
      rw [decodeMode_of_eol g4 heol]
      exact ⟨rfl, heol⟩
    | false =>
      rw [decodeMode_of_zeros g4 hla hzeros heol]
      refine ⟨rfl, ?_⟩
      obtain ⟨r, rfl⟩ := List.isPrefixOf_iff_prefix.mp hzeros
      cases r with
      | nil => simp at hla
      | cons x r => exact isPrefixOf_append (bitsOf 7 0 ++ [x]) r

theorem zeros_isPrefixOf {n : Nat} {la : List Bool} (h : n ≤ leadingZeros la) :
    (List.replicate n false).isPrefixOf la = true := by
  induction la generalizing n with
  | nil =>
    obtain rfl : n = 0 := Nat.le_zero.mp h
    rfl
  | cons b la ih =>
    cases n with
    | zero => rfl
    | succ n =>
      cases b with
      | true => exact absurd h (Nat.not_succ_le_zero n)
      | false => exact ih (Nat.le_of_succ_le_succ h)

theorem encode_decodeUncompressed {la : List Bool} (hla : 13 ≤ la.length) :
    (encode 0 (decodeUncompressed la)).isPrefixOf la = true := by
  rcases Nat.lt_or_ge (leadingZeros la) 11 with hlt | hge
  · obtain ⟨r, hr⟩ := eq_leadingZeros_append (hlt.trans_le (hla.trans' (by decide)))
    generalize hz : leadingZeros la = z at hr hlt
    rw [decodeUncompressed_eq, encode_uncompressedWord _ (by omega), hz]
    subst hr
    cases r with
    | nil => simp at hla; omega
    | cons t r =>
      have htag : (List.replicate z false ++ true :: t :: r).getD (z + 1) false = t := by
        rw [List.getD_append_right _ _ _ _ (by simp)]
        simp
      rw [htag, List.isPrefixOf_iff_prefix, List.prefix_append_right_inj]
      split
      · exact List.prefix_append [true, t] r
      · exact List.prefix_append [true] (t :: r)
  · rw [decodeUncompressed_of_eleven_zeros hge]
    exact zeros_isPrefixOf hge

theorem decodeLzw_admitted {width next : Nat} (fresh : Bool) {code : Nat} (hnext : 258 ≤ next)
    (hcode : code < 2 ^ width) :
    (Space.lzw width next fresh).admits (decodeLzw next fresh code) = true ∧
      encode width (decodeLzw next fresh code) = bitsOf width code := by
  unfold decodeLzw
  split
  · next hend =>
    subst hend
    exact ⟨decide_eq_true hcode, rfl⟩
  · split
    · next hclear =>
      subst hclear
      exact ⟨decide_eq_true hcode, rfl⟩
    · split
      · next hfresh =>
        split
        · next h258 => exact ⟨by simp [Space.admits, h258, hfresh, hcode], rfl⟩
        · have h255 : code ≤ 255 := by omega
          exact ⟨by simp [Space.admits, hfresh, h255, hcode], rfl⟩
      · next hfresh =>
        split
        · next hlt => exact ⟨by simp_all [Space.admits], rfl⟩
        · split
          · next heq => exact ⟨by simp_all [Space.admits], rfl⟩
          · have h258 : 258 ≤ code := by omega
            have hbeyond : next < code := by omega
            exact ⟨by simp [Space.admits, h258, hbeyond, hcode], rfl⟩

/-- Settles O2: space by space, what is read is admitted and its word begins the bits. -/
theorem decodedWordIsAdmitted : Obligations.DecodedWordIsAdmitted := fun sp bits i hlzw h => by
  have hla := thirteen_le_length_padded bits
  cases sp with
  | frame fill =>
    obtain ⟨z, rfl, hfill, hstart⟩ := decodeFrame_word h
    exact ⟨by simpa [Space.admits] using hfill, hstart⟩
  | tag =>
    obtain ⟨b, r, hbits⟩ := List.exists_cons_of_length_pos (hla.trans_lt' (by decide : 0 < 13))
    rw [decode, hbits, List.headD_cons, Decoded.word.injEq] at h
    subst h
    rw [hbits]
    cases b <;> exact ⟨rfl, rfl⟩
  | run c =>
    obtain ⟨rfl | hi, hstart⟩ := decodeRun_word h
    · exact ⟨rfl, hstart⟩
    · exact ⟨(runWords_entries c i hi).1, hstart⟩
  | mode g4 =>
    obtain rfl := Decoded.word.inj h
    exact decodeMode_admitted g4 hla
  | uncompressed =>
    obtain rfl := Decoded.word.inj h
    exact ⟨by rw [decodeUncompressed_eq]; exact uncompressedWord_admitted _ _, encode_decodeUncompressed hla⟩
  | lzw width next fresh =>
    obtain ⟨hnext, hwidth⟩ := hlzw width next fresh rfl
    obtain rfl := Decoded.word.inj h
    have hcode := bitsVal_lt (bits.take width)
    rw [List.length_take, min_eq_left hwidth] at hcode
    obtain ⟨hadmits, hencode⟩ := decodeLzw_admitted fresh hnext hcode
    exact ⟨hadmits, by rw [codeWidth, hencode]; exact bitsOf_bitsVal_take hwidth⟩
  | endOfBlock =>
    rw [decode] at h
    split at h
    · next hword =>
      cases h
      exact ⟨rfl, isPrefixOf_trans hword (isPrefixOf_append bits _)⟩
    · cases h

/-- Settles O4: each word by evaluation of the decoder. -/
theorem specWordsDecode : Obligations.SpecWordsDecode := by
  unfold Obligations.SpecWordsDecode
  decide +kernel

end Sys2Proof.Machine
end

section
/-!
PROOF of O6: the operands of a fetched instruction. What a decoder fetches is decoded in the space the state selects, so
it is admitted there and its word is in the window; what the encoder chooses and the port gives have no operands.
-/
namespace Sys2Proof.Machine

/-! ## What a decoder fetches -/

/-- In a code space a fetched instruction is the decoded one. -/
theorem State.decode_of_fetch {s : State} {sp : Space} {i : Instr} (hsp : s.space = some sp)
    (h : s.fetch = .word i) : decode sp s.window = .word i := by
  simp only [State.fetch, hsp] at h
  split at h
  · cases h
  · cases hd : decode sp s.window with
    | word j =>
      rw [hd] at h
      cases h
      rfl
    | reject e =>
      rw [hd] at h
      cases e <;> cases h

/-- The LZW reader looks at the bits of one code. -/
theorem State.window_lzw {s : State} {width next : Nat} {fresh : Bool}
    (h : s.space = some (.lzw width next fresh)) :
    s.phase = .lzw ∧ width = s.lzwWidth ∧ next = s.lzwNext ∧ s.window.length = width := by
  unfold State.space at h
  split at h <;> cases h
  next hp => exact ⟨hp, rfl, rfl, by simp [State.window, hp, State.lzwPeek]⟩

/-- A fetched instruction of a code space is admitted there, and its word begins the window. -/
theorem State.fetch_admitted {s : State} {sp : Space} {i : Instr} (ht : s.lzwLegal = true) (hsp : s.space = some sp)
    (h : s.fetch = .word i) :
    sp.admits i = true ∧ (encode (codeWidth sp) i).isPrefixOf (padded s.window) = true := by
  refine decodedWordIsAdmitted sp s.window i (fun width next fresh heq => ?_) (State.decode_of_fetch hsp h)
  obtain ⟨hnext, -⟩ := State.lzwTable_of_legal ht
  obtain ⟨-, -, rfl, hlen⟩ := State.window_lzw (heq ▸ hsp)
  exact ⟨hnext, hlen.ge⟩

/-! ## The operands -/

theorem runWords_wellFormed (c : Color) : ∀ i ∈ runWords c, WellFormed i := by
  cases c <;> decide +kernel

theorem modeWords_wellFormed : ∀ i ∈ modeWords, WellFormed i := by decide +kernel

theorem wellFormed_of_admits_lzw {width next : Nat} {fresh : Bool} {i : Instr} (hnext : next ≤ 4094)
    (hwidth : width ≤ 12) (h : (Space.lzw width next fresh).admits i = true) : WellFormed i := by
  have hpow : 2 ^ width ≤ 2 ^ 12 := Nat.pow_le_pow_right (by decide) hwidth
  cases i with
  | lzwClr | lzwEnd => rfl
  | lzwFirst c =>
    simp only [Space.admits, Bool.and_eq_true, decide_eq_true_eq] at h
    obtain ⟨⟨-, hc⟩, -⟩ := h
    exact decide_eq_true hc
  | lzwEntry code =>
    simp only [Space.admits, Bool.and_eq_true, decide_eq_true_eq] at h
    obtain ⟨⟨⟨⟨-, hlt⟩, hclear⟩, hend⟩, -⟩ := h
    simp only [WellFormed, Instr.wellFormed, Bool.and_eq_true, decide_eq_true_eq]
    exact ⟨⟨by omega, hclear⟩, hend⟩
  | lzwKwkwk code =>
    simp only [Space.admits, Bool.and_eq_true, decide_eq_true_eq] at h
    obtain ⟨⟨⟨-, heq⟩, h258⟩, -⟩ := h
    simp only [WellFormed, Instr.wellFormed, Bool.and_eq_true, decide_eq_true_eq]
    exact ⟨h258, by omega⟩
  | lzwInvalid code =>
    simp only [Space.admits, Bool.and_eq_true, decide_eq_true_eq] at h
    obtain ⟨⟨h258, -⟩, hfits⟩ := h
    simp only [WellFormed, Instr.wellFormed, Bool.and_eq_true, decide_eq_true_eq]
    exact ⟨h258, by omega⟩
  | _ => exact nomatch (h : false = true)

/-- An admitted instruction has operands in range, in an LZW space of a legal table too. -/
theorem wellFormed_of_admits {sp : Space} {i : Instr} (h : sp.admits i = true)
    (hlzw : ∀ width next fresh, sp = .lzw width next fresh → next ≤ 4094 ∧ width ≤ 12) : WellFormed i := by
  cases sp with
  | frame fill =>
    cases i with
    | eol z => rfl
    | _ => exact nomatch (h : false = true)
  | tag =>
    cases i with
    | tag1 | tag0 => rfl
    | _ => exact nomatch (h : false = true)
  | run c =>
    rcases admits_run h with rfl | hi
    · rfl
    · exact runWords_wellFormed c i hi
  | mode g4 =>
    rcases admits_mode h with rfl | hi | ⟨x, rfl⟩ | ⟨-, rfl⟩ | ⟨-, sel, hne, rfl⟩ | ⟨-, sel, rfl⟩
    · rfl
    · exact modeWords_wellFormed i hi
    · rfl
    · rfl
    · exact decide_eq_true hne
    · rfl
  | uncompressed =>
    obtain ⟨t, z, -, rfl⟩ := admits_uncompressed h
    unfold uncompressedWord
    split <;> rfl
  | lzw width next fresh =>
    obtain ⟨hnext, hwidth⟩ := hlzw width next fresh rfl
    exact wellFormed_of_admits_lzw hnext hwidth h
  | endOfBlock =>
    cases i with
    | eofb => rfl
    | _ => exact nomatch (h : false = true)

/-- The encoder chooses a mode word (45_fax_encoder.md R275). -/
theorem State.encoderMode_mem (s : State) (r : Row) : s.encoderMode r ∈ modeWords := by
  simp only [State.encoderMode, verticalWord]
  split_ifs <;> decide

/-- The encoder chooses a run word of the colour (R281, R282). -/
theorem encoderRunWord_mem (c : Color) (n : Nat) : encoderRunWord c n ∈ runWords c := by
  obtain ⟨e, he, hs, -⟩ := runDecomposition c n
  exact mem_runWords_of_runEntry he hs

/-- The index of a legal table leaves room for an entry, and a code has at most 12 bits (10_state.md R43). -/
theorem State.lzwBounds_of_legal {s : State} (h : s.lzwLegal = true) : s.lzwNext ≤ 4094 ∧ s.lzwWidth ≤ 12 := by
  simp only [State.lzwLegal, Bool.and_eq_true, decide_eq_true_eq] at h
  obtain ⟨⟨⟨⟨⟨-, hnext⟩, -⟩, -⟩, hwidth⟩, -⟩ := h
  refine ⟨hnext, hwidth ▸ ?_⟩
  unfold lzwWidthAt
  split_ifs <;> decide

/-- Outside the code spaces the encoder chooses a word, or the port gives the submitted job's instruction. -/
theorem State.fetch_outside_spaces {s : State} {i : Instr} (hsp : s.space = none) (h : s.fetch = .word i) :
    i ∈ modeWords ∨ (∃ c, i ∈ runWords c) ∨ i = .eofb ∨ ∃ op : Op, i = op.instr := by
  cases hp : s.phase with
  | idle =>
    cases hr : s.request with
    | none => cases (State.fetch_idle_waiting hp hr).symm.trans h
    | some c =>
      cases (State.fetch_idle_of_request hp hr).symm.trans h
      exact .inr (.inr (.inr ⟨c.op, rfl⟩))
  | encodeMode =>
    have hfetch : s.fetch = .word (s.encoderMode (s.inputRow.getD [])) := by simp only [State.fetch, hsp, hp]
    cases hfetch.symm.trans h
    exact .inl (s.encoderMode_mem _)
  | encodeRun1 left a1 a2 =>
    cases (State.fetch_encodeRun1 hp).symm.trans h
    exact .inr (.inl ⟨_, encoderRunWord_mem _ _⟩)
  | encodeRun2 left a2 =>
    cases (State.fetch_encodeRun2 hp).symm.trans h
    exact .inr (.inl ⟨_, encoderRunWord_mem _ _⟩)
  | encodeEnd =>
    cases (State.fetch_encodeEnd hp).symm.trans h
    exact .inr (.inr (.inl rfl))
  | lineStart | tagBit | run | modeWord | uncompressed | lzw => simp [State.space, hp] at hsp

/-- Settles O6: in a code space by what it admits, elsewhere because the words have no operand. -/
theorem fetchedWordsWellFormed : Obligations.FetchedWordsWellFormed := fun s i hi h => by
  obtain ⟨-, htable, -⟩ := State.inv_iff.mp hi
  cases hsp : s.space with
  | some sp =>
    refine wellFormed_of_admits (State.fetch_admitted htable hsp h).1 fun width next fresh heq => ?_
    obtain ⟨-, rfl, rfl, -⟩ := State.window_lzw (heq ▸ hsp)
    exact State.lzwBounds_of_legal htable
  | none =>
    rcases State.fetch_outside_spaces hsp h with hmode | ⟨c, hrun⟩ | rfl | ⟨op, rfl⟩
    · exact modeWords_wellFormed i hmode
    · exact runWords_wellFormed c i hrun
    · rfl
    · cases op <;> rfl

end Sys2Proof.Machine
end

section
/-!
PROOF of O7, O8, O9, O43 and O45: the buffers and the string table, said through reads (20_memory.md R61 to R66,
10_state.md R43, 46_lzw_decoder.md R322). Canonical memories that read alike are the same data, which makes equations
between buffers out of facts about their bytes.
-/
namespace Sys2Proof.Machine

/-! ## Canonical memories (R61) -/

/-- Two canonical memories that read alike have the same listed cells. -/
theorem Memory.eq_of_read_eq {m n : Memory} (hm : m.wf = true) (hn : n.wf = true)
    (h : ∀ a, m.read a = n.read a) : m = n := by
  induction m generalizing n with
  | nil =>
    cases n with
    | nil => rfl
    | cons d n =>
      obtain ⟨hw, -, -⟩ := Memory.wf_cons.1 hn
      exact absurd ((h d.1).trans (by rw [Memory.read_cons, if_pos rfl])).symm hw
  | cons c m ih =>
    obtain ⟨a, v⟩ := c
    obtain ⟨hv, ha, hm'⟩ := Memory.wf_cons.1 hm
    cases n with
    | nil => exact absurd ((h a).symm.trans (by rw [Memory.read_cons, if_pos rfl])).symm hv
    | cons d n =>
      obtain ⟨b, w⟩ := d
      obtain ⟨hw, hb, hn'⟩ := Memory.wf_cons.1 hn
      have hat (x : Nat) : (if x = a then v else Memory.read m x) = if x = b then w else Memory.read n x := by
        rw [← Memory.read_cons, ← Memory.read_cons, h]
      obtain rfl : a = b := by
        rcases lt_trichotomy a b with hab | hab | hab
        · have hzero := hat a
          rw [if_pos rfl, if_neg hab.ne, Memory.read_of_listed_above fun c hc => hab.trans (hb c hc)] at hzero
          exact absurd hzero hv
        · exact hab
        · have hzero := hat b
          rw [if_pos rfl, if_neg hab.ne, Memory.read_of_listed_above fun c hc => hab.trans (ha c hc)] at hzero
          exact absurd hzero.symm hw
      have hvw : v = w := by simpa using hat a
      have htail : m = n := ih hm' hn' fun x => by
        by_cases hx : x = a
        · rw [hx, Memory.read_of_listed_above ha, Memory.read_of_listed_above hb]
        · simpa [hx] using hat x
      rw [hvw, htail]

/-- Settles O7: the canonical form and the read after a write, and equality from reads. -/
theorem memoryReadAfterWrite : Obligations.MemoryReadAfterWrite :=
  ⟨fun _ a v hm => ⟨Memory.write_wf hm a v, Memory.read_write hm a v⟩, fun _ _ => Memory.eq_of_read_eq⟩

/-- Past its end a well-formed buffer reads 0. -/
theorem Buffer.read_past_end {b : Buffer} (h : b.wf = true) {a : Nat} (ha : b.size ≤ a) : b.cells.read a = 0 := by
  have hlisted : b.cells.all (fun c => decide (c.1 < b.size)) = true := by
    simpa [Memory.Good] using (Buffer.wf_iff.1 h).2
  exact Memory.read_of_listed_below hlisted ha

/-- Well-formed buffers of one size that read alike inside it are the same. -/
theorem Buffer.eq_of_read_eq {a b : Buffer} (ha : a.wf = true) (hb : b.wf = true) (hsize : a.size = b.size)
    (h : ∀ x, x < a.size → a.cells.read x = b.cells.read x) : a = b := by
  have hcells : a.cells = b.cells := Memory.eq_of_read_eq (Buffer.wf_iff.1 ha).1 (Buffer.wf_iff.1 hb).1 fun x => by
    rcases Nat.lt_or_ge x a.size with hx | hx
    · exact h x hx
    · rw [Buffer.read_past_end ha hx, Buffer.read_past_end hb (hsize ▸ hx)]
  cases a
  cases b
  simp_all

/-! ## Pixels (R63 to R65) -/

/-- Settles O8: the pixel's bit gets the colour, every other bit of every byte is as before. -/
theorem setPixelChangesOneBit : Obligations.SetPixelChangesOneBit := fun m stride k x c hm => by
  refine ⟨Memory.setPixel_wf hm stride k x c, ?_, fun a j hj => Memory.getLsbD_setPixel hm stride k x c a hj⟩
  have hbit := Memory.getLsbD_setPixel hm stride k x c (pixelAddr stride k x) (pixelBit_lt x)
  rw [if_pos ⟨rfl, rfl⟩] at hbit
  rw [Memory.pixel, hbit]
  cases c <;> rfl

/-- Settles O9: the paint completes, and over an empty range it changes nothing. -/
theorem paintSetsItsPixels : Obligations.PaintSetsItsPixels := fun s x0 x1 c hwf hx hfits => by
  obtain ⟨b, hpaint, hb⟩ := State.paint_painted hwf hx hfits x0 c
  refine ⟨b, hpaint, hb, fun hempty => ?_⟩
  have hsame : s.paint x0 x1 c = some s := if_pos hempty
  exact (congrArg State.out (Option.some_inj.mp (hsame.symm.trans hpaint))).symm

/-! ## The string table (10_state.md R43) -/

theorem LzwTable.find_set (t : LzwTable) (i : Nat) (w : List Byte) (j : Nat) :
    (t.set i w).find j = if j = i then some w else t.find j := by
  induction t with
  | nil => simp [LzwTable.set, LzwTable.find, eq_comm]
  | cons e t ih =>
    obtain ⟨k, v⟩ := e
    rcases lt_trichotomy i k with hik | rfl | hik
    · rw [LzwTable.set, if_pos hik, LzwTable.find]
      simp only [eq_comm]
    · rw [LzwTable.set, if_neg (lt_irrefl i), if_pos rfl, LzwTable.find, LzwTable.find]
      by_cases hj : j = i
      · rw [if_pos hj.symm, if_pos hj]
      · rw [if_neg (Ne.symm hj), if_neg hj, if_neg (Ne.symm hj)]
    · rw [LzwTable.set, if_neg hik.not_gt, if_neg hik.ne', LzwTable.find, LzwTable.find, ih]
      by_cases hj : k = j
      · rw [if_pos hj, if_pos hj, if_neg (hj ▸ hik.ne)]
      · rw [if_neg hj, if_neg hj]

/-- Settles O43: what is found after the set is the entry set, or what was found before. -/
theorem lzwTableReadAfterSet : Obligations.LzwTableReadAfterSet := fun t i w => by
  refine ⟨?_, fun j hj => ?_⟩
  · rw [LzwTable.get, LzwTable.find_set, if_pos rfl]
  · rw [LzwTable.get, LzwTable.find_set, if_neg hj, LzwTable.get]

/-! ## The predictor (46_lzw_decoder.md R322) -/

/-- An address inside the rows of a buffer has a row and a place in it. -/
theorem exists_row_of_lt {a stride height : Nat} (h : a < stride * height) :
    ∃ j i, j < height ∧ i < stride ∧ a = j * stride + i := by
  have hstride : 0 < stride := Nat.pos_of_ne_zero fun h0 => by simp [h0] at h
  exact ⟨a / stride, a % stride, Nat.div_lt_of_lt_mul h, Nat.mod_lt a hstride, (Nat.div_add_mod' a stride).symm⟩

/-- Adding the differences up again gives each byte back, from left to right along the row. -/
theorem Buffer.Unpredicted.read_of_differences {c : JobConfig} {a b v : Buffer} (h : a.Unpredicted c b)
    (hstride : c.stride = c.width * c.samplesPerPixel) (hspp : 1 ≤ c.samplesPerPixel)
    (hdiff : ∀ j i, j < c.height → i < c.stride →
      a.cells.read (j * c.stride + i) =
        if i < c.samplesPerPixel then v.cells.read (j * c.stride + i)
        else v.cells.read (j * c.stride + i) - v.cells.read (j * c.stride + i - c.samplesPerPixel))
    {j : Nat} (hj : j < c.height) {i : Nat} (hi : i < c.stride) :
    b.cells.read (j * c.stride + i) = v.cells.read (j * c.stride + i) := by
  obtain ⟨-, -, hsum⟩ := h
  induction i using Nat.strong_induction_on with
  | _ i ih =>
    rw [hsum j i hj (hstride ▸ hi), hdiff j i hj hi]
    by_cases hfirst : i < c.samplesPerPixel
    · rw [if_pos hfirst, if_pos hfirst]
    · have hback : j * c.stride + i - c.samplesPerPixel = j * c.stride + (i - c.samplesPerPixel) := by omega
      rw [if_neg hfirst, if_neg hfirst, hback, ih (i - c.samplesPerPixel) (by omega) (by omega)]
      exact BitVec.sub_add_cancel _ _

/-- Settles O45: the reversed buffer reads as `v` in every row, so it is `v`. -/
theorem unpredictInvertsDifferencing : Obligations.UnpredictInvertsDifferencing :=
  fun s v hout hv hop h8 hspp hsize hvsize hdiff => by
    obtain ⟨b, hb, hrev⟩ := unpredictReversesTheRows s hout hop h8 hspp hsize
    have hstride := JobConfig.stride_of_lzw_bytes hop h8
    obtain rfl : b = v := by
      obtain ⟨hbsize, hbwf, -⟩ := id hrev
      refine Buffer.eq_of_read_eq hbwf hv (hbsize.trans hvsize.symm) fun x hx => ?_
      obtain ⟨j, i, hj, hi, rfl⟩ := exists_row_of_lt (hx.trans_eq (hbsize.trans hsize))
      exact hrev.read_of_differences hstride hspp hdiff hj hi
    exact hb

end Sys2Proof.Machine
end

section
/-!
PROOF of O15, O16, O17, O50 and O51: a submitted job (47_job_dispatch.md R340, R341, 60_exceptions.md R361). Each of the
six submissions takes the job of its operation from the port and begins that operation's procedure.
-/
namespace Sys2Proof.Machine

/-! ## A run of the machine -/

theorem run_zero (s : State) : Host.Core.run Sys2Proof.core 0 s = .next s := rfl

theorem run_of_step {s t : State} (h : step s = .next t) (n : Nat) :
    Host.Core.run Sys2Proof.core (n + 1) s = Host.Core.run Sys2Proof.core n t := by
  have hstep : Sys2Proof.core.step s = .next t := h
  simp only [Host.Core.run, hstep]

/-! ## The submissions -/

/-- The beginning of the procedure of each operation (R341). -/
def Op.begin : Op → State → State
  | .decodeG31D => State.beginG3
  | .decodeG32D => State.beginG3
  | .decodeG4 => State.beginG4
  | .decodeLzw => State.beginLzw
  | .copyNone => State.copyNone
  | .encodeG4 => State.beginEncode

/-- A submission takes the job of its operation. -/
theorem exec_instr (op : Op) (s : State) : exec op.instr s = s.takeJob op (Op.begin op) := by
  cases op <;> rfl

theorem exec_instr_accepted {s : State} {c : JobConfig} (hp : s.phase = .idle) (hr : s.request = some c)
    (hvalid : c.valid s.limits = true) : exec c.op.instr s = .next (Op.begin c.op (s.jobStart c)) := by
  rw [exec_instr, State.takeJob_accepted hp hr hvalid]

theorem exec_instr_refused {s : State} {c : JobConfig} (hp : s.phase = .idle) (hr : s.request = some c)
    (hvalid : c.valid s.limits = false) :
    exec c.op.instr s =
      .next { s with request := none, result := some (errorResult .preconditionViolation) } := by
  rw [exec_instr, State.takeJob, hp, hr]
  simp only [if_true, hvalid, Bool.false_eq_true, if_false]

/-! ## The checks (60_exceptions.md R361, 10_state.md R25) -/

theorem JobConfig.samplesLegal_iff {c : JobConfig} :
    c.samplesLegal = true ↔
      (1 ≤ c.samplesPerPixel ∧ 1 ≤ c.bitsPerSample ∧ (c.predictor = .none ∨ c.predictor = .horizontal)) ∧
        (c.predictor = .horizontal → c.bitsPerSample = 8) := by
  simp only [JobConfig.samplesLegal, Bool.and_eq_true, Bool.or_eq_true, decide_eq_true_eq]
  cases c.predictor <;> simp [and_assoc]

theorem JobConfig.fillOrderLegal_iff {c : JobConfig} :
    c.fillOrderLegal = true ↔ c.fillOrder = 1 ∨ c.fillOrder = 2 := by
  simp [JobConfig.fillOrderLegal]

theorem JobConfig.valid_iff {l : Limits} {c : JobConfig} :
    c.valid l = true ↔
      (1 ≤ c.width ∧ c.width ≤ l.maxWidth ∧ c.height ≤ l.maxHeight ∧ c.input.size ≤ l.maxInBytes) ∧
      (c.op = .decodeG31D ∨ c.op = .decodeG32D ∨ c.op = .decodeG4 → c.fillOrder = 1 ∨ c.fillOrder = 2) ∧
      (c.op = .decodeG32D → c.t4Options.getLsbD 0 = true) ∧
      (c.op = .decodeG31D → c.t4Options.getLsbD 0 = false) ∧
      (c.op = .decodeG4 → ∀ r, c.refIn = some r → r.length = c.width) ∧
      (c.op = .decodeLzw ∨ c.op = .copyNone →
        1 ≤ c.samplesPerPixel ∧ 1 ≤ c.bitsPerSample ∧ (c.predictor = .none ∨ c.predictor = .horizontal)) ∧
      (c.op = .decodeLzw ∨ c.op = .copyNone → c.predictor = .horizontal → c.bitsPerSample = 8) ∧
      (c.op = .encodeG4 → c.input.size = (c.width + 7) / 8 * c.height) := by
  rw [JobConfig.valid, Bool.and_eq_true]
  refine and_congr (by simp [and_assoc]) ?_
  cases hop : c.op with
  | decodeG31D | decodeG32D => simp [JobConfig.fillOrderLegal_iff, JobConfig.twoD]
  | decodeG4 => cases href : c.refIn <;> simp [JobConfig.fillOrderLegal_iff]
  | decodeLzw | copyNone => simp [JobConfig.samplesLegal_iff]
  | encodeG4 => simp

/-- Settles O15: the checks read off, and the refused submission of each operation. -/
theorem configurationIsChecked : Obligations.ConfigurationIsChecked :=
  ⟨fun _ _ => JobConfig.valid_iff, fun _ _ => exec_instr_refused⟩

/-! ## The beginnings (R340, R341) -/

theorem State.beginG3_of_rows {s : State} (h : 0 < s.cfg.height) : s.beginG3 = { s with phase := .lineStart } :=
  if_neg h.ne'

theorem State.beginG4_of_rows {s : State} (h : 0 < s.cfg.height) :
    s.beginG4 = State.start2D { s with ref := s.cfg.refIn.getD s.ref } := if_neg h.ne'

theorem State.beginEncode_of_rows {s : State} (h : 0 < s.cfg.height) : s.beginEncode = s.startEncodeRow :=
  if_neg h.ne'

theorem State.beginEncode_of_no_row {s : State} (h : s.cfg.height = 0) :
    s.beginEncode = { s with phase := .encodeEnd } :=
  if_pos h

/-- Settles O16: the accepted submission of each operation, with the beginning evaluated. -/
theorem acceptedJobsBegin : Obligations.AcceptedJobsBegin := fun s c hp hr hvalid => by
  have hexec := exec_instr_accepted hp hr hvalid
  refine ⟨fun hop hh => ?_, fun hop hh => ?_, fun hop hh => ?_, fun hop => ?_, fun hop hh => ?_, fun hop hh => ?_⟩
  · rw [hop] at hexec
    exact hexec.trans (congrArg _ (State.beginG3_of_rows (s := s.jobStart c) hh))
  · rw [hop] at hexec
    exact hexec.trans (congrArg _ (State.beginG3_of_rows (s := s.jobStart c) hh))
  · rw [hop] at hexec
    exact hexec.trans (congrArg _ (State.beginG4_of_rows (s := s.jobStart c) hh))
  · rw [hop] at hexec
    exact hexec
  · rw [hop] at hexec
    exact hexec.trans (congrArg _ (State.beginEncode_of_rows (s := s.jobStart c) hh))
  · rw [hop] at hexec
    exact hexec.trans (congrArg _ (State.beginEncode_of_no_row (s := s.jobStart c) hh))

/-- A fax job of height 0 returns at once, with the reference line it would have started with. -/
theorem State.begin_fax_of_no_row {s : State} {op : Op} (hop : s.cfg.op = op) (hfax : isFaxDecode op = true)
    (hh : s.cfg.height = 0) :
    ∃ r, (op = .decodeG4 → r = s.cfg.refIn.getD s.ref) ∧
      Op.begin op s = State.finish { s with ref := r } (State.okResult { s with ref := r }) := by
  cases op with
  | decodeG31D | decodeG32D => exact ⟨s.ref, nofun, if_pos hh⟩
  | decodeG4 => exact ⟨_, fun _ => rfl, if_pos hh⟩
  | decodeLzw | copyNone | encodeG4 => cases hfax

/-- Settles O17: the job returns where it begins; its buffer has no byte. -/
theorem heightZeroFaxJobs : Obligations.HeightZeroFaxJobs := fun s c hp hr hvalid hfax hh => by
  obtain ⟨r, href, hbegin⟩ := State.begin_fax_of_no_row (s := s.jobStart c) rfl hfax hh
  have hout : (s.jobStart c).out = ⟨0, []⟩ := by
    rw [State.jobStart_out (isFaxDecode_ne hfax).1, hh, Nat.mul_zero]
    rfl
  have hresult : State.okResult { s.jobStart c with ref := r } =
      { status := .ok, out := some ⟨0, []⟩, failures := 0,
        refOut := if c.op = .decodeG4 then some (c.refIn.getD (List.replicate c.width .white)) else none,
        enc := none } := by
    rw [State.okResult, ← hout]
    by_cases hop : c.op = .decodeG4
    · obtain rfl := href hop
      rfl
    · have hop' : ¬(s.jobStart c).cfg.op = .decodeG4 := hop
      simp only [if_neg hop, if_neg hop']
      rfl
  refine ⟨_, (exec_instr_accepted hp hr hvalid).trans (congrArg _ hbegin), rfl, rfl, ?_, rfl, rfl⟩
  rw [hresult]
  rfl

/-- The 24 bits of the end of block, packed. -/
theorem pack_eofb : pack ([] ++ encode 0 .eofb) = [0x00#8, 0x10#8, 0x01#8] := by decide

/-- Settles O50: the submission leads to the end of block, which returns its packed word. -/
theorem heightZeroEncoding : Obligations.HeightZeroEncoding := fun s c hp hr hvalid hop hh => by
  have hstart : step s = .next { s.jobStart c with phase := .encodeEnd } := by
    obtain ⟨-, -, -, -, -, hend⟩ := acceptedJobsBegin s c hp hr hvalid
    rw [step_word (State.fetch_idle_of_request hp hr), hop]
    exact hend hop hh
  have hend := (step_word (State.fetch_encodeEnd rfl)).trans
    (exec_eofb_encodeEnd (s := { s.jobStart c with phase := .encodeEnd }) rfl)
  refine ⟨_, (run_of_step hstart 1).trans ((run_of_step hend 0).trans (run_zero _)), rfl, ?_, rfl, rfl⟩
  rw [← pack_eofb]
  rfl

/-- Settles O51: the invariant by evaluation, the registers as they are written. -/
theorem resetIsLegal : Obligations.ResetIsLegal :=
  ⟨by decide +kernel, rfl, rfl, rfl, rfl, rfl, rfl, rfl, rfl, rfl, rfl, rfl, rfl, rfl, rfl, rfl⟩

end Sys2Proof.Machine
end

section
/-!
PROOF of O21, O24 to O28, O30, O32 to O34, O39 and O47: the words of the line decoders, of the LZW loop and of the
encoder's runs. In a row of a fax job the row can be painted and a raise completes, so each word is evaluated up to its
paint.
-/
namespace Sys2Proof.Machine

/-! ## What the line decoders look at -/

theorem State.fetch_run {s : State} {site : RunSite} {x total : Nat} (hp : s.phase = .run site x total) :
    s.fetch = Fetched.ofDecoded (decodeRun (s.runColor site) (padded (s.peek 13))) := by
  simp [State.fetch, State.space, State.window, hp, decode]

theorem State.fetch_modeWord {s : State} (hp : s.phase = .modeWord) :
    s.fetch = .word (decodeMode (decide (s.cfg.op = .decodeG4)) (padded (s.peek 13))) := by
  simp [State.fetch, State.space, State.window, hp, decode, Fetched.ofDecoded]

/-- The first bits from a position begin any longer string from it. -/
theorem State.bitsFrom_isPrefixOf (s : State) (p : Nat) {n m : Nat} (h : n ≤ m) :
    (s.bitsFrom p n).isPrefixOf (s.bitsFrom p m) = true := by
  obtain ⟨k, rfl⟩ := Nat.exists_eq_add_of_le h
  rw [State.bitsFrom, State.bitsFrom, List.range_add, List.map_append]
  exact isPrefixOf_append _ _

/-- Past the end of the data every bit is 0 (40_bit_cursor.md R122). -/
theorem State.bitsFrom_past_end {s : State} {p : Nat} (h : s.inBits ≤ p) (n : Nat) :
    s.bitsFrom p n = List.replicate n false := by
  refine List.eq_replicate_iff.mpr ⟨s.length_bitsFrom p n, fun b hb => ?_⟩
  obtain ⟨j, -, rfl⟩ := List.mem_map.mp hb
  exact State.inBit_past_end (h.trans (Nat.le_add_right p j))

theorem State.eol_begins_window {s : State} (h : s.bitsFrom s.cur 12 = eolWord) :
    eolWord.isPrefixOf (padded (s.peek 13)) = true := by
  rw [← h, isPrefixOf_padded (by simp)]
  exact s.bitsFrom_isPrefixOf s.cur (by decide)

/-- What the invariant gives in a run. -/
theorem State.inv_run {s : State} {site : RunSite} {x total : Nat} (hi : s.Inv) (hp : s.phase = .run site x total) :
    s.RowReady := (State.inv_inFaxRow hi (by rw [hp]; rfl)).toRowReady

/-! ## A missing EOL and an EOL inside a line -/

/-- Settles O21: the event's meaning under each policy. -/
theorem missingEolPolicy : Obligations.MissingEolPolicy := fun s hi hp hf => by
  have hs : s.InFaxRow := State.inv_inFaxRow hi (by rw [hp]; rfl)
  have hg4 : s.cfg.op ≠ .decodeG4 := by
    obtain ⟨-, -, -, -, hphase⟩ := State.inv_iff.mp hi
    simp only [State.phaseLegal, hp, Bool.and_eq_true, decide_eq_true_eq] at hphase
    exact hphase.2
  refine ⟨s.missingEol, step_event hf, fun hstrict => ?_, fun htol hrow => ?_, fun htol hrow => ?_⟩
  · rw [State.missingEol, if_neg (Bool.eq_false_iff.mp hstrict)]
    exact ⟨rfl, rfl, rfl, rfl⟩
  · rw [State.missingEol, if_pos htol, if_pos hrow]
    exact ⟨rfl, rfl, rfl, rfl⟩
  · rw [State.missingEol, if_pos htol, if_neg hrow]
    exact State.resumeFrom_resumes (s := { s.refInvalidated with failures := s.failures + 1 }) hg4 s.cur

theorem exec_eol_inside_line {s : State} (h : (∃ site x total, s.phase = .run site x total) ∨ s.phase = .modeWord) :
    exec (.eol 0) s = s.raise .prematureEOL := by
  have hexec : exec (.eol 0) s = execEol 0 s := rfl
  rcases h with ⟨site, x, total, hp⟩ | hp
  · rw [hexec, execEol, hp]
    exact if_pos rfl
  · rw [hexec, execEol, hp]
    exact if_pos rfl

/-- Settles O24: both spaces look for the EOL first, and its meaning there is the raise. -/
theorem eolInsideALineRaises : Obligations.EolInsideALineRaises := fun s hi hp => by
  have hready : s.RowReady := by
    refine (State.inv_inFaxRow hi ?_).toRowReady
    rcases hp with ⟨site, x, total, hp⟩ | hp <;> rw [hp] <;> rfl
  refine ⟨fun hword => ?_, by rw [exec_eol_inside_line hp]; exact hready.raise .prematureEOL⟩
  have heol := State.eol_begins_window hword
  rcases hp with ⟨site, x, total, hp⟩ | hp
  · rw [State.fetch_run hp, decodeRun_of_eol _ heol]
    rfl
  · rw [State.fetch_modeWord hp, decodeMode_of_eol _ heol]

/-! ## Run words -/

theorem runWords_length (c : Color) : ∀ i ∈ runWords c, 2 ≤ (encode 0 i).length ∧ (encode 0 i).length ≤ 13 := by
  cases c <;> decide +kernel

/-- Where the look-ahead begins no run word and no EOL, or lies past the data, nothing is read (R152, R153). -/
theorem State.fetch_noRunWord {s : State} {site : RunSite} {x total : Nat} (hp : s.phase = .run site x total)
    (h : (eolWord.isPrefixOf (s.peek 13) = false ∧
        ∀ i ∈ runWords (s.runColor site), (encode 0 i).isPrefixOf (s.peek 13) = false) ∨ s.inBits ≤ s.cur) :
    s.fetch = .event .noRunWord := by
  have hreject : decodeRun (s.runColor site) (padded (s.peek 13)) = .reject .noRunWord := by
    rcases h with ⟨heol, hwords⟩ | hend
    · refine decodeRun_reject_iff_no_word.mpr ⟨?_, fun i hi => ?_⟩
      · rwa [isPrefixOf_padded (by rw [State.length_peek]; decide)]
      · rw [isPrefixOf_padded (by rw [State.length_peek]; exact (runWords_length _ i hi).2)]
        exact hwords i hi
    · refine (decodeRun_reject_iff (thirteen_le_length_padded _)).mpr ⟨bitsOf 12 0, by simp [invalidRunPatterns], ?_⟩
      rw [State.peek, State.bitsFrom_past_end hend]
      rfl
  rw [State.fetch_run hp, hreject]
  rfl

/-- Settles O25: nothing is read, and the event raises. -/
theorem noRunWordRaises : Obligations.NoRunWordRaises := fun s site x total hi hp h => by
  rw [step_event (State.fetch_noRunWord hp h)]
  exact (State.inv_run hi hp).raise .malformedCode

/-- In a run of its colour a run word is decoded. -/
theorem exec_runWord_decode {s : State} {i : Instr} {e : RunEntry} {site : RunSite} {x total : Nat}
    (hp : s.phase = .run site x total) (he : i.runEntry = some e)
    (hs : runSpaceHas e.space (s.runColor site) = true) :
    exec i s = s.decodeRunWord (encode 0 i).length e site x total := by
  rw [exec_of_runEntry he, State.runWord, hp]
  exact if_pos hs

/-- A run word that fits, where its paint succeeds (42_line_decoder_1d.md R172). -/
theorem State.decodeRunWord_of_paint {s u : State} {len : Nat} {e : RunEntry} {site : RunSite} {x total : Nat}
    (hfits : x + total + e.run ≤ s.cfg.width)
    (h : s.paint (x + total) (x + total + e.run) (s.runColor site) = some u) :
    s.decodeRunWord len e site x total =
      if e.terminating then (u.advanced len).endRun site x (total + e.run)
      else .next { u.advanced len with phase := .run site x (total + e.run) } := by
  rw [State.decodeRunWord, if_neg (Nat.not_lt.mpr hfits), h]

/-- Settles O26: one paint, and the run goes on. -/
theorem makeupWordsContinueTheRun : Obligations.MakeupWordsContinueTheRun :=
  fun s i e site x total hi hp he hmakeup hs hfits => by
    obtain ⟨b, hpaint, hb⟩ := (State.inv_run hi hp).paint hfits (x + total) (s.runColor site)
    refine ⟨b, hb, ?_⟩
    rw [exec_runWord_decode hp he hs, State.decodeRunWord_of_paint hfits hpaint, hmakeup]
    rfl

/-- The end of a run completes where the row lies in the output buffer. -/
theorem State.endRun_done {s : State} (hk : (s.row + 1) * s.cfg.stride ≤ s.out.size) (site : RunSite) (x r : Nat) :
    ∃ t, s.endRun site x r = .next t ∧ RunDone s site x r t := by
  cases site with
  | line1D =>
    by_cases hw : s.pos + r = s.cfg.width
    · obtain ⟨t, ht, hends⟩ := State.endLine_ends (s := { s with pos := s.pos + r }) hk
      exact ⟨t, (if_pos hw).trans ht, .inr ⟨hw, hends⟩⟩
    · exact ⟨_, if_neg hw, .inl ⟨hw, rfl⟩⟩
  | horizontal1 => exact ⟨_, rfl, rfl⟩
  | horizontal2 => exact State.endMode_done (s := { s with a0 := ((x + r : Nat) : Int) }) hk

/-- Settles O27: one paint, and the end of the run. -/
theorem terminatingWordsEndTheRun : Obligations.TerminatingWordsEndTheRun :=
  fun s i e site x total hi hp he hterm hs hfits => by
    have hready := State.inv_run hi hp
    obtain ⟨b, hpaint, hb⟩ := hready.paint hfits (x + total) (s.runColor site)
    obtain ⟨t, ht, hdone⟩ := State.endRun_done
      (s := { s with cur := s.cur + (encode 0 i).length, out := b }) (hb.1 ▸ hready.row_fits) site x (total + e.run)
    refine ⟨b, t, hb, ?_, hdone⟩
    rw [exec_runWord_decode hp he hs, State.decodeRunWord_of_paint hfits hpaint, if_pos hterm]
    exact ht

/-- Settles O28: the check comes before the paint. -/
theorem runWordsOverrun : Obligations.RunWordsOverrun := fun s i e site x total hi hp he hs hover => by
  rw [exec_runWord_decode hp he hs, State.decodeRunWord, if_pos hover]
  exact (State.inv_run hi hp).raise .overrunError

/-! ## Mode words -/

/-- Settles O30: at a mode position `H` has its meaning in the line decoder. -/
theorem horizontalModeBegins : Obligations.HorizontalModeBegins := fun _ hp =>
  State.atModeWord_of_modeWord hp .h State.horizontal State.emitHorizontal

theorem State.malformedMode_raises {s : State} {g4 : Option Bool} (hp : s.phase = .modeWord)
    (h : g4 = none ∨ g4 = some (decide (s.cfg.op = .decodeG4))) : s.malformedMode g4 = s.raise .malformedCode := by
  rw [State.malformedMode, hp]
  exact if_pos h

/-- Settles O32: each of the three words is a raise at a mode position. -/
theorem invalidModeWordsRaise : Obligations.InvalidModeWordsRaise := fun s hi hp => by
  obtain ⟨hready, -⟩ := State.inv_modeWord hi hp
  refine ⟨fun sel hsel hop => ?_, fun sel hop => ?_, fun x => ?_⟩
  · have hexec : exec (.extRes sel) s = s.malformedMode (some true) := if_neg hsel
    rw [hexec, State.malformedMode_raises hp (.inr (by rw [decide_eq_true hop]))]
    exact hready.raise .malformedCode
  · have hexec : exec (.extG3 sel) s = s.malformedMode (some false) := rfl
    rw [hexec, State.malformedMode_raises hp (.inr (by rw [decide_eq_false hop]))]
    exact hready.raise .malformedCode
  · have hexec : exec (.modeInvalid x) s = s.malformedMode none := rfl
    rw [hexec, State.malformedMode_raises hp (.inl rfl)]
    exact hready.raise .malformedCode

/-- Settles O33: in a Group 4 line the word enters uncompressed mode. -/
theorem extensionEntersUncompressedMode : Obligations.ExtensionEntersUncompressedMode := fun s hp hop => by
  have hexec : exec .extU s = s.enterUncompressed := rfl
  rw [hexec, State.enterUncompressed, hp]
  exact if_pos hop

/-! ## Image words -/

/-- Each image word writes its own white and black pixels (43_line_decoder_2d.md R222 to R227). -/
theorem exec_imageWord {i : Instr} {z n : Nat} (h : (i, z, n) ∈ imageWords) (s : State) :
    ∃ black : Bool, black.toNat = n ∧ exec i s = s.uncompressedImage i z black := by
  simp only [imageWords, List.mem_cons, Prod.mk.injEq, List.not_mem_nil, or_false] at h
  rcases h with ⟨rfl, rfl, rfl⟩ | ⟨rfl, rfl, rfl⟩ | ⟨rfl, rfl, rfl⟩ | ⟨rfl, rfl, rfl⟩ | ⟨rfl, rfl, rfl⟩ |
    ⟨rfl, rfl, rfl⟩
  · exact ⟨true, rfl, rfl⟩
  · exact ⟨true, rfl, rfl⟩
  · exact ⟨true, rfl, rfl⟩
  · exact ⟨true, rfl, rfl⟩
  · exact ⟨true, rfl, rfl⟩
  · exact ⟨false, rfl, rfl⟩

theorem State.RowReady.of_painted {s : State} (h : s.RowReady) {x0 x1 : Nat} {c : Color} {b : Buffer}
    (hb : s.out.Painted s.cfg.stride s.row x0 x1 c b) : State.RowReady { s with out := b } := by
  obtain ⟨hsize, hwf, -⟩ := hb
  exact ⟨hwf, hsize ▸ h.row_fits, h.width_le⟩

theorem State.uncompressedImage_of_paint {s u v : State} {i : Instr} {z : Nat} {black : Bool}
    (hp : s.phase = .uncompressed) (hn : s.pos + (z + black.toNat) ≤ s.cfg.width)
    (hwhite : s.paint s.pos (s.pos + z) .white = some u)
    (hblack : u.paint (s.pos + z) (s.pos + (z + black.toNat)) .black = some v) :
    s.uncompressedImage i z black =
      .next { v.advanced (encode 0 i).length with pos := s.pos + (z + black.toNat) } := by
  simp only [State.uncompressedImage, hp, if_neg (Nat.not_lt.mpr hn), hwhite, hblack]

/-- Settles O34: where the pixels fit two paints, else the raise. -/
theorem uncompressedImageWords : Obligations.UncompressedImageWords := fun s i z n hi hp hmem => by
  obtain ⟨hready, -⟩ := State.inv_uncompressed hi hp
  obtain ⟨black, rfl, hexec⟩ := exec_imageWord hmem s
  rw [hexec, Nat.add_assoc]
  refine ⟨fun hfits => ?_, fun hover => ?_⟩
  · obtain ⟨b, hwhite, hb⟩ := hready.paint (x1 := s.pos + z) (by omega) s.pos .white
    obtain ⟨d, hblack, hd⟩ := (hready.of_painted hb).paint hfits (s.pos + z) .black
    refine ⟨b, d, hb, hd, ?_⟩
    rw [State.uncompressedImage_of_paint hp hfits hwhite hblack]
    rfl
  · simp only [State.uncompressedImage, hp, if_pos hover]
    exact hready.raise .overrunError

/-! ## The first LZW data code -/

/-- Right after a reset the table has no entry of its own (46_lzw_decoder.md R302). -/
theorem State.lzwTab_of_fresh {s : State} (h : s.lzwLegal = true) (hprev : s.lzwPrev = none) :
    s.lzwNext = 258 ∧ s.lzwTab = [] := by
  have hnext : s.lzwNext = 258 := by
    simp only [State.lzwLegal, hprev, Bool.and_eq_true, decide_eq_true_eq] at h
    exact h.2
  obtain ⟨-, hlisted, -⟩ := State.lzwTable_of_legal h
  rw [hnext] at hlisted
  exact ⟨hnext, List.map_eq_nil_iff.mp hlisted⟩

theorem exec_lzwFirst_lzw {s : State} {c : Nat} {w : List Byte} (hp : s.phase = .lzw) (hprev : s.lzwPrev = none)
    (hc : c ≤ 255) (hw : s.lzwTab.get c = some w) :
    exec (.lzwFirst c) s = .next { (s.advanced s.lzwWidth).lzwOutput w with lzwPrev := some c } := by
  have hexec : exec (.lzwFirst c) s = execLzwFirst c s := rfl
  rw [hexec, execLzwFirst, State.atLzwCode_of_lzw hp]
  simp only [State.advanced_lzwTab, hw]
  exact if_pos ⟨hprev, hc⟩

/-- Settles O39: the table names the one byte, and its output is stored. -/
theorem lzwFirstDataCode : Obligations.LzwFirstDataCode := fun s c hi hp hprev hc => by
  have hloop := State.inv_lzw hi hp
  obtain ⟨-, htab⟩ := State.lzwTab_of_fresh hloop.table_legal hprev
  have hget : s.lzwTab.get c = some [BitVec.ofNat 8 c] := by
    rw [htab, LzwTable.get_nil]
    exact if_pos (by omega)
  obtain ⟨b, hb, hout⟩ := State.lzwOutput_stored (s := s.advanced s.lzwWidth) hloop.out_wf hloop.lzwOut_le
    [BitVec.ofNat 8 c]
  refine ⟨b, hb, ?_⟩
  rw [exec_lzwFirst_lzw hp hprev hc hget, hout]
  rfl

/-! ## The runs of the encoder -/

/-- What the invariant gives in the second run of the encoder. -/
theorem State.inv_encodeRun2 {s : State} {left a2 : Nat} (hi : s.Inv) (hp : s.phase = .encodeRun2 left a2) :
    s.inputRow = some s.sourceRow := by
  obtain ⟨-, -, -, -, hphase⟩ := State.inv_iff.mp hi
  simp only [State.phaseLegal, hp, Bool.and_eq_true] at hphase
  obtain ⟨⟨⟨⟨henc, -⟩, -⟩, -⟩, -⟩ := hphase
  exact State.inputRow_of_encodingRow henc

theorem exec_runWord_emit1 {s : State} {i : Instr} {e : RunEntry} {left a1 a2 : Nat}
    (hp : s.phase = .encodeRun1 left a1 a2) (he : i.runEntry = some e) (hi : i = encoderRunWord s.color left) :
    exec i s =
      if e.terminating then .next { s.emit (encode 0 i) with phase := .encodeRun2 (a2 - a1) a2 }
      else .next { s.emit (encode 0 i) with phase := .encodeRun1 (left - e.run) a1 a2 } := by
  rw [exec_of_runEntry he, State.runWord, hp]
  simp only [State.emitRunWord, hp]
  exact if_pos hi

theorem exec_runWord_emit2 {s : State} {i : Instr} {e : RunEntry} {left a2 : Nat}
    (hp : s.phase = .encodeRun2 left a2) (he : i.runEntry = some e)
    (hi : i = encoderRunWord (flipColor s.color) left) :
    exec i s =
      if e.terminating then State.endEncodeMode { s.emit (encode 0 i) with a0 := (a2 : Int) }
      else .next { s.emit (encode 0 i) with phase := .encodeRun2 (left - e.run) a2 } := by
  rw [exec_of_runEntry he, State.runWord, hp]
  simp only [State.emitRunWord, hp]
  exact if_pos hi

/-- Settles O47: in each run the word fetched, and what it leaves. -/
theorem encoderEmitsRunWords : Obligations.EncoderEmitsRunWords := fun s i e hinv he => by
  refine ⟨fun left a1 a2 hp hi => ⟨?_, fun hmakeup => ?_, fun hterm => ?_⟩,
    fun left a2 hp hi => ⟨?_, fun hmakeup => ?_, fun hterm => ?_⟩⟩
  · rw [hi, State.fetch_encodeRun1 hp]
  · rw [exec_runWord_emit1 hp he hi, hmakeup]
    rfl
  · rw [exec_runWord_emit1 hp he hi, if_pos hterm]
    rfl
  · rw [hi, State.fetch_encodeRun2 hp]
  · rw [exec_runWord_emit2 hp he hi, hmakeup]
    rfl
  · rw [exec_runWord_emit2 hp he hi, if_pos hterm]
    have hrow := State.inv_encodeRun2 hinv hp
    exact State.endEncodeMode_done (s := { s with encBits := s.encBits ++ encode 0 i, a0 := (a2 : Int) }) hrow

end Sys2Proof.Machine
end

section
/-!
PROOF of O54: what a running job keeps (10_state.md R29, 47_job_dispatch.md R346). No operation of a running job writes
the configuration, the fill order, the limits or the port; the result record is written by the end of the job alone.
-/
namespace Sys2Proof.Machine

variable {s u t : State}

/-- `u` has the configuration, the fill order, the limits, the port and the result record of `s`. -/
def State.Quiet (s u : State) : Prop :=
  u.cfg = s.cfg ∧ u.fill = s.fill ∧ u.limits = s.limits ∧ u.request = s.request ∧ u.result = s.result

/-- What a step from `s` to `t` leaves of a running job: all of that, the result record unless the job has ended. -/
def State.Undisturbed (s t : State) : Prop :=
  t.cfg = s.cfg ∧ t.fill = s.fill ∧ t.limits = s.limits ∧ t.request = s.request ∧
    (t.phase ≠ .idle → t.result = s.result)

namespace State.Quiet

theorem refl (s : State) : s.Quiet s := ⟨rfl, rfl, rfl, rfl, rfl⟩

theorem undisturbed (h : s.Quiet u) : s.Undisturbed u := by
  obtain ⟨hcfg, hfill, hlimits, hrequest, hresult⟩ := h
  exact ⟨hcfg, hfill, hlimits, hrequest, fun _ => hresult⟩

/-- The end of the job writes the result record. -/
theorem finish (h : s.Quiet u) (r : JobResult) : s.Undisturbed (u.finish r) := by
  obtain ⟨hcfg, hfill, hlimits, hrequest, -⟩ := h
  exact ⟨hcfg, hfill, hlimits, hrequest, fun hp => absurd rfl hp⟩

theorem paint (h : s.Quiet u) {x0 x1 : Nat} {c : Color} {v : State} (hv : u.paint x0 x1 c = some v) : s.Quiet v := by
  rcases State.paint_some hv with ⟨-, rfl⟩ | ⟨-, -, rfl⟩
  · exact h
  · exact h

/-! ### Lines and rows -/

theorem afterEol (h : s.Quiet u) : s.Undisturbed u.afterEol := by
  rcases u.afterEol_cases with ⟨-, heq⟩ | ⟨-, heq⟩
  · rw [heq]
    exact undisturbed h
  · rw [heq]
    exact undisturbed h

theorem endLine (h : s.Quiet u) (ht : u.endLine = .next t) : s.Undisturbed t := by
  obtain ⟨r, -, rfl⟩ := State.endLine_next ht
  rcases (u.withReference r).afterRow_cases with ⟨-, -, heq⟩ | ⟨-, -, heq⟩ | ⟨-, heq⟩
  · rw [heq]
    exact undisturbed h
  · rw [heq]
    exact undisturbed h
  · rw [heq]
    exact finish (u := u.withReference r) h _

theorem endMode (h : s.Quiet u) (ht : u.endMode = .next t) : s.Undisturbed t := by
  rcases State.endMode_next ht with ⟨-, hline⟩ | ⟨-, rfl⟩
  · exact h.endLine hline
  · exact undisturbed h

theorem endRun (h : s.Quiet u) {site : RunSite} {x r : Nat} (ht : u.endRun site x r = .next t) :
    s.Undisturbed t := by
  rcases State.endRun_next ht with ⟨-, -, hline⟩ | ⟨-, -, rfl⟩ | ⟨-, rfl⟩ | ⟨-, hmode⟩
  · exact endLine (u := { u with pos := u.pos + r }) h hline
  · exact undisturbed h
  · exact undisturbed h
  · exact endMode (u := { u with a0 := ((x + r : Nat) : Int) }) h hmode

theorem endEncodeMode (h : s.Quiet u) (ht : u.endEncodeMode = .next t) : s.Undisturbed t := by
  rcases State.endEncodeMode_next ht with ⟨-, rfl⟩ | ⟨r, -, -, ⟨-, rfl⟩ | ⟨-, rfl⟩⟩ <;> exact undisturbed h

/-! ### Errors -/

theorem resumeFrom (h : s.Quiet u) (p : Nat) : s.Undisturbed (u.resumeFrom p) := by
  rcases u.resumeFrom_cases p with ⟨q, -, -, heq⟩ | ⟨q, -, -, heq⟩ | ⟨-, heq⟩
  · rw [heq]
    exact afterEol (u := { u with cur := q + 12, row := u.row + 1 }) h
  · rw [heq]
    exact finish (u := { u with cur := q + 12 }) h _
  · rw [heq]
    exact h.finish _

theorem raise (h : s.Quiet u) {e : FaxError} (ht : u.raise e = .next t) : s.Undisturbed t := by
  rcases State.raise_next ht with ⟨-, rfl⟩ | ⟨v, hv, -, -, rfl⟩ | ⟨v, hv, -, -, rfl⟩
  · exact finish (u := u.cursorOpen) h _
  · obtain ⟨-, rfl⟩ := State.clearRow_some hv
    exact finish (u := { u.cursorOpen with out := _ }) h _
  · obtain ⟨-, rfl⟩ := State.clearRow_some hv
    exact resumeFrom
      (u := { u.cursorOpen with out := _, refValid := false, failures := u.cursorOpen.failures + 1 }) h _

theorem missingEol (h : s.Quiet u) : s.Undisturbed u.missingEol := by
  rcases u.missingEol_cases with heq | ⟨-, heq⟩ | heq
  · rw [heq]
    exact h.finish _
  · rw [heq]
    exact h.finish _
  · rw [heq]
    exact resumeFrom (u := { u.refInvalidated with failures := u.failures + 1 }) h _

/-! ### The LZW loop -/

theorem finishLzw (h : s.Quiet u) (ht : u.finishLzw = .next t) : s.Undisturbed t := by
  rcases State.finishLzw_next ht with ⟨-, v, hv, rfl⟩ | ⟨-, rfl⟩
  · obtain ⟨b, rfl⟩ := State.unpredict_some hv
    exact finish (u := { u with out := b }) h _
  · exact h.finish _

theorem addEntry (h : s.Quiet u) (code : Nat) (new : List Byte) : s.Undisturbed (u.addEntry code new) := by
  rcases u.addEntry_cases code new with ⟨-, heq⟩ | ⟨-, heq⟩
  · rw [heq]
    exact undisturbed h
  · rw [heq]
    exact undisturbed h

end State.Quiet

/-! ## Every instruction of a running job -/

theorem State.undisturbed_of_runWord {i : Instr} {e : RunEntry} (h : s.runWord i e = .next t) : s.Undisturbed t := by
  have hq := State.Quiet.refl s
  rcases State.runWord_next h with ⟨site, x, total, -, -, hdec⟩ | hemit
  · rcases State.decodeRunWord_next hdec with ⟨-, hraise⟩ | ⟨u, -, hpaint, ⟨-, hend⟩ | ⟨-, rfl⟩⟩
    · exact hq.raise hraise
    · have hu := hq.paint hpaint
      exact State.Quiet.endRun (u := u.advanced (encode 0 i).length) hu hend
    · have hu := hq.paint hpaint
      exact State.Quiet.undisturbed hu
  · rcases State.emitRunWord_next hemit with ⟨left, a1, a2, -, -, hword⟩ | ⟨left, a2, -, -, ⟨-, hend⟩ | ⟨-, rfl⟩⟩
    · rcases hword with ⟨-, rfl⟩ | ⟨-, rfl⟩ <;> exact State.Quiet.undisturbed hq
    · exact State.Quiet.endEncodeMode (u := { s.emit (encode 0 i) with a0 := (a2 : Int) }) hq hend
    · exact State.Quiet.undisturbed hq

theorem State.undisturbed_of_execEol {fill : Nat} (h : execEol fill s = .next t) : s.Undisturbed t := by
  unfold execEol at h
  split at h
  · split at h
    · obtain rfl := Host.Outcome.next.inj h
      exact State.Quiet.afterEol (u := s.advanced _) (State.Quiet.refl s)
    · cases h
  · split at h
    · exact (State.Quiet.refl s).raise h
    · cases h
  · split at h
    · exact (State.Quiet.refl s).raise h
    · cases h
  · cases h

theorem State.undisturbed_of_tags (h : execTag0 s = .next t ∨ execTag1 s = .next t) : s.Undisturbed t := by
  rcases h with h | h
  · unfold execTag0 at h
    split at h
    · split at h
      · obtain rfl := Host.Outcome.next.inj h
        exact State.Quiet.undisturbed (State.Quiet.refl s)
      · exact (State.Quiet.refl s).raise h
    · cases h
  · unfold execTag1 at h
    split at h
    · obtain rfl := Host.Outcome.next.inj h
      exact State.Quiet.undisturbed (State.Quiet.refl s)
    · cases h

/-- A mode word leaves the job undisturbed if both of its meanings do. -/
theorem State.undisturbed_of_atModeWord {i : Instr} {dec : State → Out} {enc : Row → State → Out}
    (h : s.atModeWord i dec enc = .next t) (hdec : dec s = .next t → s.Undisturbed t)
    (henc : ∀ r, enc r s = .next t → s.Undisturbed t) : s.Undisturbed t := by
  rcases State.atModeWord_next h with ⟨-, hd⟩ | ⟨r, -, -, -, he⟩
  · exact hdec hd
  · exact henc r he

theorem State.undisturbed_of_execP (h : execP s = .next t) : s.Undisturbed t := by
  refine State.undisturbed_of_atModeWord h (fun hdec => ?_) fun r henc => ?_
  · obtain ⟨u, hpaint, hmode⟩ := State.pass_next hdec
    have hu := (State.Quiet.refl s).paint hpaint
    exact State.Quiet.endMode (u := { u.advanced 4 with a0 := (s.b2 : Int) }) hu hmode
  · exact State.Quiet.endEncodeMode (u := { s.emit (encode 0 .p) with a0 := (s.b2 : Int) }) (State.Quiet.refl s) henc

theorem State.undisturbed_of_execH (h : execH s = .next t) : s.Undisturbed t := by
  refine State.undisturbed_of_atModeWord h (fun hdec => ?_) fun r henc => ?_
  · obtain rfl := Host.Outcome.next.inj hdec
    exact State.Quiet.undisturbed (State.Quiet.refl s)
  · obtain rfl := Host.Outcome.next.inj henc
    exact State.Quiet.undisturbed (State.Quiet.refl s)

theorem State.undisturbed_of_verticalWordAt {i : Instr} {d : Int} (h : s.verticalWordAt i d = .next t) :
    s.Undisturbed t := by
  refine State.undisturbed_of_atModeWord h (fun hdec => ?_) fun r henc => ?_
  · rcases State.vertical_next hdec with ⟨u, -, -, hpaint, hmode⟩ | ⟨-, hraise⟩
    · have hu := (State.Quiet.refl s).paint hpaint
      exact State.Quiet.endMode
        (u := State.flipped { u.advanced (encode 0 i).length with a0 := (s.b1 : Int) + d }) hu hmode
    · exact (State.Quiet.refl s).raise hraise
  · exact State.Quiet.endEncodeMode
      (u := State.flipped { s.emit (encode 0 i) with a0 := (s.encoderA1 r : Int) }) (State.Quiet.refl s) henc

theorem State.undisturbed_of_malformedMode {g4 : Option Bool} (h : s.malformedMode g4 = .next t) :
    s.Undisturbed t := by
  unfold State.malformedMode at h
  split at h
  · split at h
    · exact (State.Quiet.refl s).raise h
    · cases h
  · cases h

theorem State.undisturbed_of_enterUncompressed (h : s.enterUncompressed = .next t) : s.Undisturbed t := by
  unfold State.enterUncompressed at h
  split at h
  · split at h
    · obtain rfl := Host.Outcome.next.inj h
      exact State.Quiet.undisturbed (State.Quiet.refl s)
    · cases h
  · cases h

theorem State.undisturbed_of_uncompressedImage {i : Instr} {z : Nat} {black : Bool}
    (h : s.uncompressedImage i z black = .next t) : s.Undisturbed t := by
  obtain ⟨-, ⟨-, hraise⟩ | ⟨u, v, -, hwhite, hblack, rfl⟩⟩ := State.uncompressedImage_next h
  · exact (State.Quiet.refl s).raise hraise
  · have hv := ((State.Quiet.refl s).paint hwhite).paint hblack
    exact State.Quiet.undisturbed hv

theorem State.undisturbed_of_uncompressedExit {i : Instr} {n : Nat} {b : Bool}
    (h : s.uncompressedExit i n b = .next t) : s.Undisturbed t := by
  obtain ⟨-, ⟨-, hraise⟩ | ⟨u, -, hpaint, hmode⟩⟩ := State.uncompressedExit_next h
  · exact (State.Quiet.refl s).raise hraise
  · have hu := (State.Quiet.refl s).paint hpaint
    exact State.Quiet.endMode
      (u := { u.advanced (encode 0 i).length with
        pos := s.pos + n, color := tagColor b, a0 := ((s.pos + n : Nat) : Int) }) hu hmode

/-- An LZW code leaves the job undisturbed if its body does, past the code. -/
theorem State.undisturbed_of_atLzwCode {body : State → Out} (h : s.atLzwCode body = .next t)
    (hbody : ∀ u, s.Quiet u → body u = .next t → s.Undisturbed t) : s.Undisturbed t := by
  obtain ⟨-, hb⟩ := State.atLzwCode_next h
  exact hbody (s.advanced s.lzwWidth) (State.Quiet.refl s) hb

theorem State.undisturbed_of_execLzwClr (h : execLzwClr s = .next t) : s.Undisturbed t := by
  refine State.undisturbed_of_atLzwCode h fun u hu hb => ?_
  obtain rfl := Host.Outcome.next.inj hb
  exact State.Quiet.undisturbed hu

theorem State.undisturbed_of_execLzwEnd (h : execLzwEnd s = .next t) : s.Undisturbed t :=
  State.undisturbed_of_atLzwCode h fun _ hu hb => hu.finishLzw hb

theorem State.undisturbed_of_execLzwFirst {c : Nat} (h : execLzwFirst c s = .next t) : s.Undisturbed t := by
  refine State.undisturbed_of_atLzwCode h fun u hu hb => ?_
  split at hb
  · split at hb
    · obtain rfl := Host.Outcome.next.inj hb
      exact State.Quiet.undisturbed hu
    · cases hb
  · cases hb

theorem State.undisturbed_of_execLzwEntry {code : Nat} (h : execLzwEntry code s = .next t) : s.Undisturbed t := by
  refine State.undisturbed_of_atLzwCode h fun u hu hb => ?_
  split at hb
  · cases hb
  · split at hb
    · split at hb
      · obtain rfl := Host.Outcome.next.inj hb
        exact State.Quiet.addEntry (u := u.lzwOutput _) hu _ _
      · cases hb
    · cases hb

theorem State.undisturbed_of_execLzwKwkwk {code : Nat} (h : execLzwKwkwk code s = .next t) : s.Undisturbed t := by
  refine State.undisturbed_of_atLzwCode h fun u hu hb => ?_
  split at hb
  · cases hb
  · split at hb
    · split at hb
      · obtain rfl := Host.Outcome.next.inj hb
        exact State.Quiet.addEntry (u := u.lzwOutput _) hu _ _
      · cases hb
    · cases hb

theorem State.undisturbed_of_execLzwInvalid {code : Nat} (h : execLzwInvalid code s = .next t) :
    s.Undisturbed t := by
  refine State.undisturbed_of_atLzwCode h fun u hu hb => ?_
  split at hb
  · obtain rfl := Host.Outcome.next.inj hb
    exact State.Quiet.finish (u := u.cursorOpen) hu _
  · cases hb

theorem State.undisturbed_of_execEofb (h : execEofb s = .next t) : s.Undisturbed t := by
  unfold execEofb at h
  split at h
  · obtain rfl := Host.Outcome.next.inj h
    exact State.Quiet.finish (u := s.emit (encode 0 .eofb)) (State.Quiet.refl s) _
  · cases h

theorem undisturbed_of_exec {i : Instr} (hrun : s.phase ≠ .idle) (h : exec i s = .next t) : s.Undisturbed t := by
  cases he : i.runEntry with
  | some e => exact State.undisturbed_of_runWord ((exec_of_runEntry he s).symm.trans h)
  | none =>
    cases i with
    | eol fill => exact State.undisturbed_of_execEol h
    | tag1 => exact State.undisturbed_of_tags (.inr h)
    | tag0 => exact State.undisturbed_of_tags (.inl h)
    | p => exact State.undisturbed_of_execP h
    | h => exact State.undisturbed_of_execH h
    | vl3 | vl2 | vl1 | v0 | vr1 | vr2 | vr3 => exact State.undisturbed_of_verticalWordAt h
    | extU => exact State.undisturbed_of_enterUncompressed h
    | extRes sel =>
      have hexec : exec (.extRes sel) s =
          if sel = 7#3 then .refused .notInContext else s.malformedMode (some true) := rfl
      rw [hexec] at h
      split at h
      · cases h
      · exact State.undisturbed_of_malformedMode h
    | extG3 | modeInvalid => exact State.undisturbed_of_malformedMode h
    | uB | uWB | uWWB | uWWWB | uWWWWB | uWWWWW => exact State.undisturbed_of_uncompressedImage h
    | uX0 | uX1 | uX2 | uX3 | uX4 => exact State.undisturbed_of_uncompressedExit h
    | uInvalid =>
      have hexec : exec .uInvalid s = execUInvalid s := rfl
      rw [hexec, execUInvalid] at h
      split at h
      · exact (State.Quiet.refl s).raise h
      · cases h
    | lzwClr => exact State.undisturbed_of_execLzwClr h
    | lzwEnd => exact State.undisturbed_of_execLzwEnd h
    | lzwFirst c => exact State.undisturbed_of_execLzwFirst h
    | lzwEntry code => exact State.undisturbed_of_execLzwEntry h
    | lzwKwkwk code => exact State.undisturbed_of_execLzwKwkwk h
    | lzwInvalid code => exact State.undisturbed_of_execLzwInvalid h
    | eofb => exact State.undisturbed_of_execEofb h
    | jobDecodeG31D | jobDecodeG32D | jobDecodeG4 | jobDecodeLzw | jobCopyNone | jobEncodeG4 =>
      obtain ⟨c, hp, -⟩ := State.takeJob_next h
      exact absurd hp hrun
    | _ => cases he

/-- Settles O54: every instruction and every event of a running job leaves it undisturbed. -/
theorem runningJobIsUndisturbed : Obligations.RunningJobIsUndisturbed := fun s t hrun h => by
  have hq := State.Quiet.refl s
  cases hf : s.fetch with
  | word i => exact undisturbed_of_exec hrun ((step_word hf).symm.trans h)
  | event e =>
    have hhandle := (step_event hf).symm.trans h
    cases e with
    | waiting =>
      obtain rfl := Host.Outcome.next.inj hhandle
      exact State.Quiet.undisturbed hq
    | noRunWord => exact hq.raise hhandle
    | noEol =>
      obtain rfl := Host.Outcome.next.inj hhandle
      exact hq.missingEol
    | lzwStop => exact hq.finishLzw hhandle

end Sys2Proof.Machine
end

section
/-!
PROOF, first part of O52, O53, O57, O58 and O59: what work on a row of a fax decode job keeps. A line decoder writes
from the first pixel not yet reached on; the ranges of the registers and the position follow for whatever it leaves.
-/
namespace Sys2Proof.Machine

/-! ## Canonical buffers and what is listed in them -/

theorem Memory.read_of_mem {m : Memory} (h : m.wf = true) {c : Host.Cell} (hc : c ∈ m) :
    m.read c.1 = c.2 ∧ c.2 ≠ 0 := by
  induction m with
  | nil => exact absurd hc List.not_mem_nil
  | cons d m ih =>
    obtain ⟨hne, habove, hwf⟩ := Memory.wf_cons.mp h
    rw [Memory.read_cons]
    rcases List.mem_cons.mp hc with rfl | hm
    · exact ⟨if_pos rfl, hne⟩
    · rw [if_neg (habove c hm).ne']
      exact ih hwf hm

/-- In a canonical buffer a part that reads 0 has nothing listed. -/
theorem State.restUnlisted_of_restClear {s : State} (hw : s.out.wf = true) (h : s.restClear) :
    s.restUnlisted = true := by
  refine List.all_eq_true.mpr fun c hc => decide_eq_true (Nat.lt_of_not_le fun hle => ?_)
  obtain ⟨hread, hne⟩ := Memory.read_of_mem (Buffer.wf_iff.mp hw).1 hc
  exact hne (hread.symm.trans (h c.1 hle))

theorem State.buffersWf_iff {s : State} :
    s.buffersWf = true ↔ s.cfg.input.wf = true ∧ s.out.wf = true ∧ (∀ c, s.request = some c → c.input.wf = true) ∧
      ∀ r b, s.result = some r → r.out = some b → b.wf = true := by
  simp only [State.buffersWf, Bool.and_eq_true, Option.all_eq_true]
  exact ⟨fun ⟨⟨⟨hin, hout⟩, hreq⟩, hres⟩ => ⟨hin, hout, hreq, fun r b hr hb => hres r hr b hb⟩,
    fun ⟨hin, hout, hreq, hres⟩ => ⟨⟨⟨hin, hout⟩, hreq⟩, fun r hr b hb => hres r b hr hb⟩⟩

/-! ## What no work on an image changes -/

/-- The fields that no fax line and no encoder row changes: the job, the port, the result and the LZW registers. -/
def State.jobPart (s : State) :
    Limits × Option JobConfig × Option JobResult × JobConfig × Nat × LzwTable × Nat × Nat × Option Nat × Nat :=
  (s.limits, s.request, s.result, s.cfg, s.fill, s.lzwTab, s.lzwNext, s.lzwWidth, s.lzwPrev, s.lzwOut)

section
variable {s u : State} (h : u.jobPart = s.jobPart)
include h

theorem State.limits_of_jobPart : u.limits = s.limits := congrArg (·.1) h
theorem State.request_of_jobPart : u.request = s.request := congrArg (·.2.1) h
theorem State.result_of_jobPart : u.result = s.result := congrArg (·.2.2.1) h
theorem State.cfg_of_jobPart : u.cfg = s.cfg := congrArg (·.2.2.2.1) h
theorem State.fill_of_jobPart : u.fill = s.fill := congrArg (·.2.2.2.2.1) h
theorem State.lzwOut_of_jobPart : u.lzwOut = s.lzwOut := congrArg (·.2.2.2.2.2.2.2.2.2) h

theorem State.lzwLegal_of_jobPart : u.lzwLegal = s.lzwLegal := by
  have htab : u.lzwTab = s.lzwTab := congrArg (·.2.2.2.2.2.1) h
  have hnext : u.lzwNext = s.lzwNext := congrArg (·.2.2.2.2.2.2.1) h
  have hwidth : u.lzwWidth = s.lzwWidth := congrArg (·.2.2.2.2.2.2.2.1) h
  have hprev : u.lzwPrev = s.lzwPrev := congrArg (·.2.2.2.2.2.2.2.2.1) h
  simp only [State.lzwLegal, htab, hnext, hwidth, hprev]

end

/-- The registers of an image are in their ranges (10_state.md R20). -/
structure State.ImageRange (s : State) : Prop where
  a0_ge : -1 ≤ s.a0
  a0_le : s.a0 ≤ (s.cfg.width : Int)
  pos_le : s.pos ≤ s.cfg.width
  row_le : s.row ≤ s.cfg.height
  failures_le : s.failures ≤ s.cfg.height
  ref_length : s.ref.length = s.cfg.width

theorem State.imageRange_of_inv {s : State} (hi : s.Inv) : s.ImageRange := by
  obtain ⟨-, -, hrange, -, -⟩ := State.inv_iff.mp hi
  obtain ⟨ha0, ha0', hpos, hrow, hfail, href, -, -⟩ := State.inRange_iff.mp hrange
  exact ⟨ha0, ha0', hpos, hrow, hfail, href⟩

theorem State.inRange_of_jobPart {s u : State} (hi : s.Inv) (h : u.jobPart = s.jobPart) (hr : u.ImageRange) :
    u.inRange = true := by
  obtain ⟨-, -, hrange, -, -⟩ := State.inv_iff.mp hi
  obtain ⟨-, -, -, -, -, -, hfill, hlzw⟩ := State.inRange_iff.mp hrange
  rw [← State.fill_of_jobPart h, ← State.cfg_of_jobPart h] at hfill
  rw [← State.lzwOut_of_jobPart h, ← State.cfg_of_jobPart h] at hlzw
  exact State.inRange_iff.mpr
    ⟨hr.a0_ge, hr.a0_le, hr.pos_le, hr.row_le, hr.failures_le, hr.ref_length, hfill, hlzw⟩

/-- The invariant after work on an image. -/
theorem State.inv_of_jobPart {s u : State} (hi : s.Inv) (h : u.jobPart = s.jobPart) (hout : u.out.wf = true)
    (hr : u.ImageRange) (hclear : u.restClear) (hphase : u.phaseLegal = true) : u.Inv := by
  obtain ⟨hbuf, hlzw, -, -, -⟩ := State.inv_iff.mp hi
  obtain ⟨hin, -, hreq, hres⟩ := State.buffersWf_iff.mp hbuf
  refine State.inv_iff.mpr ⟨State.buffersWf_iff.mpr ⟨?_, hout, ?_, ?_⟩, ?_, State.inRange_of_jobPart hi h hr,
    State.restUnlisted_of_restClear hout hclear, hphase⟩
  · rwa [State.cfg_of_jobPart h]
  · rwa [State.request_of_jobPart h]
  · rwa [State.result_of_jobPart h]
  · rwa [State.lzwLegal_of_jobPart h]

/-- An ended job leaves a legal state, whatever position it ended at. -/
theorem State.inv_finish {u : State} {r : JobResult} (hin : u.cfg.input.wf = true)
    (hreq : ∀ c, u.request = some c → c.input.wf = true) (hlzw : u.lzwLegal = true) (hrange : u.inRange = true)
    (hr : ∀ b, r.out = some b → b.wf = true) : (u.finish r).Inv := by
  refine State.inv_iff.mpr ⟨State.buffersWf_iff.mpr ⟨hin, rfl, hreq, ?_⟩, hlzw, hrange, rfl, rfl⟩
  rintro r' b hr' hb
  obtain rfl := Option.some_inj.mp hr'
  exact hr b hb

theorem State.inv_finish_of_jobPart {s u : State} {r : JobResult} (hi : s.Inv) (h : u.jobPart = s.jobPart)
    (hrange : u.ImageRange) (hr : ∀ b, r.out = some b → b.wf = true) : (u.finish r).Inv := by
  obtain ⟨hbuf, hlzw, -, -, -⟩ := State.inv_iff.mp hi
  obtain ⟨hin, -, hreq, -⟩ := State.buffersWf_iff.mp hbuf
  exact State.inv_finish (State.cfg_of_jobPart h ▸ hin) (State.request_of_jobPart h ▸ hreq)
    (State.lzwLegal_of_jobPart h ▸ hlzw) (State.inRange_of_jobPart hi h hrange) hr

/-! ## Written pixels -/

/-- `b` is `a` but for the pixels `x0..x1-1` of row `k`, which may have any colours. -/
structure Buffer.Written (a : Buffer) (stride k x0 x1 : Nat) (b : Buffer) : Prop where
  size_eq : b.size = a.size
  wf : b.wf = true
  pixel_eq : ∀ j x, x < 8 * stride → (j ≠ k ∨ x < x0 ∨ x1 ≤ x) → b.cells.pixel stride j x = a.cells.pixel stride j x
  read_eq : ∀ d, (∀ x, x0 ≤ x → x < x1 → pixelAddr stride k x ≠ d) → b.cells.read d = a.cells.read d

namespace Buffer.Written

variable {a b c : Buffer} {stride k x0 x1 x2 : Nat}

theorem refl (h : a.wf = true) (x0 x1 : Nat) : a.Written stride k x0 x1 a :=
  ⟨rfl, h, fun _ _ _ _ => rfl, fun _ _ => rfl⟩

theorem of_painted {color : Color} (h : a.Painted stride k x0 x1 color b) : a.Written stride k x0 x1 b := by
  obtain ⟨hsize, hwf, -, hpixel, hread⟩ := h
  exact ⟨hsize, hwf, hpixel, hread⟩

theorem trans (h : a.Written stride k x0 x1 b) (h' : b.Written stride k x1 x2 c) (h01 : x0 ≤ x1) (h12 : x1 ≤ x2) :
    a.Written stride k x0 x2 c where
  size_eq := h'.size_eq.trans h.size_eq
  wf := h'.wf
  pixel_eq j x hx hout :=
    (h'.pixel_eq j x hx (by omega)).trans (h.pixel_eq j x hx (by omega))
  read_eq d hd :=
    (h'.read_eq d fun x hx hx' => hd x (h01.trans hx) hx').trans
      (h.read_eq d fun x hx hx' => hd x hx (Nat.lt_of_lt_of_le hx' h12))

/-- The bytes after the last pixel written stay clear. -/
theorem clear_after (h : a.Written stride k x0 x1 b) (h01 : x0 ≤ x1)
    (ha : ∀ d, k * stride + (x0 + 7) / 8 ≤ d → a.cells.read d = 0) {d : Nat} (hd : k * stride + (x1 + 7) / 8 ≤ d) :
    b.cells.read d = 0 := by
  rw [h.read_eq d fun x _ hx => ?_]
  · exact ha d (by omega)
  · simp only [pixelAddr]
    omega

end Buffer.Written

/-! ## Positions in a fax row -/

/-- The first pixel of row `st.row` that the line decoder has not reached. -/
def State.reached (s : State) : Nat :=
  match s.phase with
  | .run _ x total => x + total
  | .modeWord => s.a0p
  | .uncompressed => s.pos
  | _ => 0

theorem State.unwrittenFrom_eq {s : State} (hp : s.phase.inFaxRow = true) : s.unwrittenFrom = s.byteFrom s.reached := by
  unfold State.unwrittenFrom State.reached
  cases h : s.phase with
  | lineStart | tagBit | run | modeWord | uncompressed => rfl
  | idle | lzw | encodeMode | encodeRun1 | encodeRun2 | encodeEnd => simp [h, Phase.inFaxRow] at hp

theorem State.Inv.restClear {s : State} (hi : s.Inv) : s.restClear := by
  obtain ⟨-, -, -, hrest, -⟩ := State.inv_iff.mp hi
  exact State.restClear_of_restUnlisted hrest

theorem State.clear_from_reached {s : State} (hi : s.Inv) (hp : s.phase.inFaxRow = true) {d : Nat}
    (hd : s.row * s.cfg.stride + (s.reached + 7) / 8 ≤ d) : s.out.cells.read d = 0 := by
  apply hi.restClear
  rwa [State.unwrittenFrom_eq hp]

/-- What a run at `site` from pixel `x` on asks of the registers. -/
def State.SiteLegal (s : State) (x : Nat) : RunSite → Prop
  | .line1D => s.cfg.op ≠ .decodeG4 ∧ x = s.pos ∧ s.pos < s.cfg.width
  | .horizontal1 => s.cfg.op ≠ .decodeG31D ∧ s.a0Inside = true ∧ x = s.a0p
  | .horizontal2 => s.cfg.op ≠ .decodeG31D ∧ s.a0Inside = true ∧ s.a0p ≤ x

theorem State.phaseLegal_run {s : State} {site : RunSite} {x total : Nat} (hp : s.phase = .run site x total) :
    s.phaseLegal = true ↔ s.decodingRow = true ∧ s.SiteLegal x site ∧ x + total ≤ s.cfg.width := by
  cases site <;> simp [State.phaseLegal, hp, State.SiteLegal, and_assoc]

theorem State.phaseLegal_modeWord {s : State} (hp : s.phase = .modeWord) :
    s.phaseLegal = true ↔ s.decodingRow = true ∧ s.cfg.op ≠ .decodeG31D ∧ s.a0Inside = true := by
  simp [State.phaseLegal, hp, and_assoc]

theorem State.phaseLegal_uncompressed {s : State} (hp : s.phase = .uncompressed) :
    s.phaseLegal = true ↔ s.decodingRow = true ∧ s.cfg.op = .decodeG4 ∧ s.a0Inside = true ∧ s.a0p ≤ s.pos := by
  simp [State.phaseLegal, hp, and_assoc]

theorem State.phaseLegal_lineStart {s : State} (hp : s.phase = .lineStart) :
    s.phaseLegal = true ↔ s.decodingRow = true ∧ s.cfg.op ≠ .decodeG4 := by
  simp [State.phaseLegal, hp]

theorem State.phaseLegal_tagBit {s : State} (hp : s.phase = .tagBit) :
    s.phaseLegal = true ↔ s.decodingRow = true ∧ s.cfg.op = .decodeG32D := by
  simp [State.phaseLegal, hp]

theorem State.Inv.phaseLegal {s : State} (hi : s.Inv) : s.phaseLegal = true := by
  obtain ⟨-, -, -, -, hphase⟩ := State.inv_iff.mp hi
  exact hphase

end Sys2Proof.Machine
end

section
/-!
PROOF, second part of O52, O53, O57, O58 and O59: what every step of a fax decode job gives, said once for the ways a
step can end: it stays in its row, opens a row, or ends the job.
-/
namespace Sys2Proof.Machine

/-- The padding bits of every row of a buffer of job `c` are 0 (20_memory.md R66). -/
def PaddingWhite (c : JobConfig) (b : Buffer) : Prop :=
  ∀ k x, k < c.height → c.width ≤ x → x < 8 * c.stride → b.cells.pixel c.stride k x = .white

theorem PaddingWhite.of_written {c : JobConfig} {a b : Buffer} {k x0 x1 : Nat} (ha : PaddingWhite c a)
    (h : a.Written c.stride k x0 x1 b) (hx : x1 ≤ c.width) : PaddingWhite c b := fun j x hj hw hs =>
  (h.pixel_eq j x hs (.inr (.inr (hx.trans hw)))).trans (ha j x hj hw hs)

theorem Memory.pixel_of_read_zero {m : Memory} {stride k x : Nat} (h : m.read (pixelAddr stride k x) = 0) :
    m.pixel stride k x = .white := by
  simp [Memory.pixel, h]

/-- What every step of a fax decode job from `s` to `t` gives. -/
structure FaxStep (s t : State) : Prop where
  inv : t.Inv
  padding_kept : s.paddingClear → t.phase ≠ .idle → PaddingWhite s.cfg t.out
  padding_returned : s.paddingClear → t.phase = .idle → ∀ r b, t.result = some r → r.out = some b →
    PaddingWhite s.cfg b
  cur_lt : t.phase ≠ .idle → s.cur < t.cur
  cur_near : t.phase ≠ .idle → s.cursorNear → t.cursorNear

/-! ## The job ends -/

theorem FaxStep.of_finish {s u : State} {r : JobResult} (hi : s.Inv) (h : u.jobPart = s.jobPart) (hr : u.ImageRange)
    (hout : ∀ b, r.out = some b → b.wf = true ∧ (s.paddingClear → PaddingWhite s.cfg b)) : FaxStep s (u.finish r) where
  inv := State.inv_finish_of_jobPart hi h hr fun b hb => (hout b hb).1
  padding_kept _ hne := absurd rfl hne
  padding_returned hs _ r' b hr' hb := by
    obtain rfl := Option.some_inj.mp hr'
    exact (hout b hb).2 hs
  cur_lt hne := absurd rfl hne
  cur_near hne := absurd rfl hne

/-! ## A row opens -/

/-- In `v` a row of the job of `s` is about to be decoded: nothing of it is written, and the cursor has moved. -/
structure State.RowOpens (s v : State) : Prop where
  job : v.jobPart = s.jobPart
  decoding : v.decodingRow = true
  out_wf : v.out.wf = true
  range : v.ImageRange
  clear : ∀ d, v.row * v.cfg.stride ≤ d → v.out.cells.read d = 0
  padding : s.paddingClear → PaddingWhite s.cfg v.out
  cur_lt : s.cur < v.cur
  cur_near : s.cursorNear → v.cur ≤ s.inBits + 13

theorem State.inBits_of_jobPart {s u : State} (h : u.jobPart = s.jobPart) : u.inBits = s.inBits := by
  rw [State.inBits, State.cfg_of_jobPart h, State.inBits]

theorem JobConfig.width_pos {l : Limits} {c : JobConfig} (h : c.valid l = true) : 1 ≤ c.width := by
  obtain ⟨⟨hw, -⟩, -⟩ := JobConfig.valid_iff.mp h
  exact hw

namespace State.RowOpens

variable {s v t : State}

/-- A state that differs from `v` in the registers of the line alone, and stands before its first pixel. -/
theorem faxStep (h : s.RowOpens v) (hi : s.Inv) (hjob : t.jobPart = s.jobPart) (hp : t.phase.inFaxRow = true)
    (hreached : t.reached = 0) (hrow : t.row = v.row) (hout : t.out = v.out) (hcur : t.cur = v.cur)
    (hrange : t.ImageRange) (hphase : t.phaseLegal = true) (htag : t.phase = .tagBit → v.cur ≤ s.inBits) :
    FaxStep s t := by
  have hclear : t.restClear := fun d hd => by
    rw [State.unwrittenFrom_eq hp, hreached, State.byteFrom, hrow, State.cfg_of_jobPart hjob] at hd
    rw [hout]
    apply h.clear
    rw [State.cfg_of_jobPart h.job]
    omega
  have hrun : t.phase ≠ .idle := fun hidle => by simp [hidle, Phase.inFaxRow] at hp
  exact {
    inv := State.inv_of_jobPart hi hjob (hout ▸ h.out_wf) hrange hclear hphase
    padding_kept := fun hs _ => hout ▸ h.padding hs
    padding_returned := fun _ hidle => absurd hidle hrun
    cur_lt := fun _ => hcur ▸ h.cur_lt
    cur_near := fun _ hnear => by
      rw [State.cursorNear, State.inBits_of_jobPart hjob, hcur]
      exact ⟨h.cur_near hnear, htag⟩ }

theorem width_pos (h : s.RowOpens v) : 0 < v.cfg.width :=
  JobConfig.width_pos (State.decodingRow_iff.mp h.decoding).1

theorem start1D (h : s.RowOpens v) (hi : s.Inv) (hop : v.cfg.op ≠ .decodeG4) : FaxStep s v.start1D := by
  have hr := h.range
  refine h.faxStep hi h.job rfl rfl rfl rfl rfl
    ⟨by simp, by simp, Nat.zero_le _, hr.row_le, hr.failures_le, hr.ref_length⟩ ?_ nofun
  exact (State.phaseLegal_run (s := v.start1D) rfl).mpr ⟨h.decoding, ⟨hop, rfl, h.width_pos⟩, Nat.zero_le _⟩

theorem start2D (h : s.RowOpens v) (hi : s.Inv) (hop : v.cfg.op ≠ .decodeG31D) : FaxStep s v.start2D := by
  have hr := h.range
  refine h.faxStep hi h.job rfl rfl rfl rfl rfl
    ⟨by simp, by simp, Nat.zero_le _, hr.row_le, hr.failures_le, hr.ref_length⟩ ?_ nofun
  refine (State.phaseLegal_modeWord (s := v.start2D) rfl).mpr ⟨h.decoding, hop, State.a0Inside_iff.mpr ?_⟩
  simp
  omega

theorem lineStart (h : s.RowOpens v) (hi : s.Inv) (hop : v.cfg.op ≠ .decodeG4) :
    FaxStep s { v with phase := .lineStart } :=
  h.faxStep (t := { v with phase := .lineStart }) hi h.job rfl rfl rfl rfl rfl
    ⟨h.range.a0_ge, h.range.a0_le, h.range.pos_le, h.range.row_le, h.range.failures_le, h.range.ref_length⟩
    ((State.phaseLegal_lineStart (s := { v with phase := .lineStart }) rfl).mpr ⟨h.decoding, hop⟩) nofun

/-- After an EOL inside the data. -/
theorem afterEol (h : s.RowOpens v) (hi : s.Inv) (hop : v.cfg.op ≠ .decodeG4) (hin : v.cur ≤ s.inBits) :
    FaxStep s v.afterEol := by
  rcases v.afterEol_cases with ⟨h2d, heq⟩ | ⟨-, heq⟩
  · rw [heq]
    exact h.faxStep (t := { v with phase := .tagBit }) hi h.job rfl rfl rfl rfl rfl
      ⟨h.range.a0_ge, h.range.a0_le, h.range.pos_le, h.range.row_le, h.range.failures_le, h.range.ref_length⟩
      ((State.phaseLegal_tagBit (s := { v with phase := .tagBit }) rfl).mpr ⟨h.decoding, h2d⟩) fun _ => hin
  · rw [heq]
    exact h.start1D hi hop

end State.RowOpens

/-! ## A word of a line -/

/-- A word of the line was consumed in `s`, and the pixels up to `x` were written, which gave `u`: nothing changed but
the cursor, the output buffer and the registers of the line. -/
structure State.LineWork (s u : State) (x : Nat) : Prop where
  job : u.jobPart = s.jobPart
  row_eq : u.row = s.row
  ref_eq : u.ref = s.ref
  refValid_eq : u.refValid = s.refValid
  failures_eq : u.failures = s.failures
  cur_lt : s.cur < u.cur
  cur_le : u.cur ≤ s.inBits + 12
  written : s.out.Written s.cfg.stride s.row s.reached x u.out
  reached_le : s.reached ≤ x
  le_width : x ≤ s.cfg.width
  a0_ge : -1 ≤ u.a0
  a0_le : u.a0 ≤ (s.cfg.width : Int)
  pos_le : u.pos ≤ s.cfg.width

namespace State.LineWork

variable {s u t : State} {x : Nat}

theorem cfg_eq (w : s.LineWork u x) : u.cfg = s.cfg := State.cfg_of_jobPart w.job

theorem decodingRow (w : s.LineWork u x) (h : s.decodingRow = true) : u.decodingRow = true := by
  obtain ⟨hvalid, hfax, hrow, hsize, hfail, hg4⟩ := State.decodingRow_iff.mp h
  rw [State.decodingRow_iff, w.cfg_eq, State.limits_of_jobPart w.job, w.row_eq, w.written.size_eq, w.failures_eq,
    w.refValid_eq]
  exact ⟨hvalid, hfax, hrow, hsize, hfail, hg4⟩

theorem imageRange (w : s.LineWork u x) (hi : s.Inv) : u.ImageRange := by
  have hr := State.imageRange_of_inv hi
  exact {
    a0_ge := w.a0_ge
    a0_le := w.cfg_eq.symm ▸ w.a0_le
    pos_le := w.cfg_eq.symm ▸ w.pos_le
    row_le := w.cfg_eq.symm ▸ w.row_eq.symm ▸ hr.row_le
    failures_le := w.cfg_eq.symm ▸ w.failures_eq.symm ▸ hr.failures_le
    ref_length := w.cfg_eq.symm ▸ w.ref_eq.symm ▸ hr.ref_length }

/-- The bytes after the last pixel written are clear. -/
theorem clear_after (w : s.LineWork u x) (hi : s.Inv) (hp : s.phase.inFaxRow = true) {d : Nat}
    (hd : s.row * s.cfg.stride + (x + 7) / 8 ≤ d) : u.out.cells.read d = 0 :=
  w.written.clear_after w.reached_le (fun _ hd' => State.clear_from_reached hi hp hd') hd

theorem padding (w : s.LineWork u x) (h : s.paddingClear) : PaddingWhite s.cfg u.out :=
  PaddingWhite.of_written h w.written w.le_width

/-- The line goes on. -/
theorem faxStep (w : s.LineWork u x) (hi : s.Inv) (hp : s.phase.inFaxRow = true) (hu : u.phase.inFaxRow = true)
    (hreached : u.reached = x) (hphase : u.phaseLegal = true) (htag : u.phase ≠ .tagBit) : FaxStep s u := by
  have hclear : u.restClear := fun d hd => by
    rw [State.unwrittenFrom_eq hu, hreached, State.byteFrom, w.row_eq, w.cfg_eq] at hd
    exact w.clear_after hi hp hd
  have hrun : u.phase ≠ .idle := fun hidle => by simp [hidle, Phase.inFaxRow] at hu
  exact {
    inv := State.inv_of_jobPart hi w.job w.written.wf (w.imageRange hi) hclear hphase
    padding_kept := fun hs _ => w.padding hs
    padding_returned := fun _ hidle => absurd hidle hrun
    cur_lt := fun _ => w.cur_lt
    cur_near := fun _ _ => by
      rw [State.cursorNear, State.inBits_of_jobPart w.job]
      exact ⟨w.cur_le.trans (Nat.le_succ _), fun h => absurd h htag⟩ }

/-- The row after a decoded line. -/
theorem rowOpens (w : s.LineWork u x) (hi : s.Inv) (hp : s.phase.inFaxRow = true) {r : Row}
    (hr : r.length = s.cfg.width) (hnext : s.row + 1 < s.cfg.height) :
    s.RowOpens { u.withReference r with row := u.row + 1 } := by
  obtain ⟨hdec, -⟩ := State.phaseLegal_inFaxRow hi hp
  obtain ⟨hvalid, hfax, -, hsize, hfail, hg4⟩ := State.decodingRow_iff.mp (w.decodingRow hdec)
  have hrange := w.imageRange hi
  have hrow : u.row + 1 < u.cfg.height := by rwa [w.row_eq, w.cfg_eq]
  exact {
    job := w.job
    decoding := State.decodingRow_iff.mpr ⟨hvalid, hfax, hrow, hsize, Nat.le_succ_of_le hfail,
      hg4.imp id fun ⟨_, hzero⟩ => ⟨rfl, hzero⟩⟩
    out_wf := w.written.wf
    range := ⟨hrange.a0_ge, hrange.a0_le, hrange.pos_le, hrow.le, hrange.failures_le,
      hr.trans (congrArg _ w.cfg_eq.symm)⟩
    clear := fun d hd => by
      have hstride := (State.inv_inFaxRow hi hp).width_le
      have hx := w.le_width
      simp only [State.withReference_cfg, State.withReference_out, w.row_eq, w.cfg_eq, Nat.succ_mul] at hd ⊢
      exact w.clear_after hi hp (by omega)
    padding := w.padding
    cur_lt := w.cur_lt
    cur_near := fun _ => w.cur_le.trans (Nat.le_succ _) }

/-- The line ends: the next row opens, or the job ends `OK`. -/
theorem faxStep_of_endLine (w : s.LineWork u x) (hi : s.Inv) (hp : s.phase.inFaxRow = true)
    (h : u.endLine = .next t) : FaxStep s t := by
  obtain ⟨r, hr, rfl⟩ := State.endLine_next h
  have hlen : r.length = s.cfg.width := (Buffer.row_length hr).trans (congrArg _ w.cfg_eq)
  have hrange := w.imageRange hi
  rcases (u.withReference r).afterRow_cases with ⟨hrow, hop, heq⟩ | ⟨hrow, hop, heq⟩ | ⟨-, heq⟩
  · rw [heq]
    have hrow' : s.row + 1 < s.cfg.height := w.row_eq ▸ w.cfg_eq ▸ hrow
    refine (w.rowOpens hi hp hlen hrow').start2D hi fun hop' => ?_
    exact Op.noConfusion (hop.symm.trans hop')
  · rw [heq]
    have hrow' : s.row + 1 < s.cfg.height := w.row_eq ▸ w.cfg_eq ▸ hrow
    exact (w.rowOpens hi hp hlen hrow').lineStart hi hop
  · rw [heq]
    refine FaxStep.of_finish hi w.job ?_ fun b hb => ?_
    · exact ⟨hrange.a0_ge, hrange.a0_le, hrange.pos_le, hrange.row_le, hrange.failures_le,
        hlen.trans (congrArg _ w.cfg_eq.symm)⟩
    · obtain rfl : u.out = b := Option.some_inj.mp hb
      exact ⟨w.written.wf, w.padding⟩

end State.LineWork

/-! ## A row given up -/

/-- In `u` row `st.row` of the Group 3 job in `s` has been given up and counted. -/
structure State.RowCounted (s u : State) : Prop extends State.RowGivenUp s u where
  job : u.jobPart = s.jobPart
  a0_eq : u.a0 = s.a0
  pos_eq : u.pos = s.pos
  ref_eq : u.ref = s.ref
  failures_eq : u.failures = s.failures + 1
  op_ne : s.cfg.op ≠ .decodeG4
  padding : s.paddingClear → PaddingWhite s.cfg u.out

namespace State.RowCounted

variable {s u : State}

theorem imageRange (h : s.RowCounted u) (hi : s.Inv) (hs : s.InFaxRow) : u.ImageRange := by
  have hr := State.imageRange_of_inv hi
  have hfail := hs.failures_le
  have hrow := hs.row_lt
  refine ⟨h.a0_eq ▸ hr.a0_ge, ?_, ?_, ?_, ?_, ?_⟩
  · rw [h.a0_eq, h.cfg_eq]
    exact hr.a0_le
  · rw [h.pos_eq, h.cfg_eq]
    exact hr.pos_le
  · rw [h.row_eq, h.cfg_eq]
    exact hr.row_le
  · rw [h.failures_eq, h.cfg_eq]
    omega
  · rw [h.ref_eq, h.cfg_eq]
    exact hr.ref_length

/-- The search from the failing word leads to a later row, or ends the job (60_exceptions.md R367, R368). -/
theorem faxStep_of_resumeFrom (h : s.RowCounted u) (hi : s.Inv) (hp : s.phase.inFaxRow = true) :
    FaxStep s (u.resumeFrom s.cur) := by
  have hs := State.inv_inFaxRow hi hp
  have hrange := h.imageRange hi hs
  rcases u.resumeFrom_cases s.cur with ⟨q, hq, hrow, heq⟩ | ⟨q, -, -, heq⟩ | ⟨-, heq⟩
  · obtain ⟨hle, hin, -, -⟩ := State.searchEol_eq_some.mp hq
    rw [State.inBits_of_jobPart h.job] at hin
    obtain ⟨hdec, -⟩ := State.phaseLegal_inFaxRow hi hp
    obtain ⟨hvalid, hfax, -, hsize, hfail, -⟩ := State.decodingRow_iff.mp hdec
    have hop : u.cfg.op ≠ .decodeG4 := h.cfg_eq ▸ h.op_ne
    have hopens : s.RowOpens { u with cur := q + 12, row := u.row + 1 } := {
      job := h.job
      decoding := by
        refine State.decodingRow_iff.mpr ⟨?_, ?_, hrow, ?_, ?_, .inl hop⟩
        · simpa only [h.cfg_eq, State.limits_of_jobPart h.job] using hvalid
        · simpa only [h.cfg_eq] using hfax
        · simpa only [h.cfg_eq, h.out_same.size_eq] using hsize
        · simpa only [h.failures_eq, h.row_eq] using Nat.succ_le_succ hfail
      out_wf := h.out_same.wf
      range := ⟨hrange.a0_ge, hrange.a0_le, hrange.pos_le, hrow.le, hrange.failures_le, hrange.ref_length⟩
      clear := fun d hd => h.clear d <| by
        simp only [h.row_eq, h.cfg_eq, Nat.succ_mul] at hd
        omega
      padding := h.padding
      cur_lt := by simp only; omega
      cur_near := fun _ => by simp only; omega }
    rw [heq]
    exact hopens.afterEol hi hop hin
  · rw [heq]
    refine FaxStep.of_finish (u := { u with cur := q + 12 }) hi h.job
      ⟨hrange.a0_ge, hrange.a0_le, hrange.pos_le, hrange.row_le, hrange.failures_le, hrange.ref_length⟩ fun b hb => ?_
    obtain rfl : u.out = b := Option.some_inj.mp hb
    exact ⟨h.out_same.wf, h.padding⟩
  · rw [heq]
    refine FaxStep.of_finish hi h.job hrange fun b hb => ?_
    obtain rfl : u.out = b := Option.some_inj.mp hb
    exact ⟨h.out_same.wf, h.padding⟩

end State.RowCounted

/-! ## Errors -/

/-- A cleared row has clear padding. -/
theorem PaddingWhite.of_rowCleared {c : JobConfig} {a b : Buffer} {k : Nat} (ha : PaddingWhite c a)
    (h : a.RowCleared c.stride k b) : PaddingWhite c b := fun j x hj hw hs => by
  obtain ⟨-, -, hrow, hother⟩ := h
  by_cases hin : k * c.stride ≤ pixelAddr c.stride j x ∧ pixelAddr c.stride j x < (k + 1) * c.stride
  · exact Memory.pixel_of_read_zero (hrow _ hin.1 hin.2)
  · have hread := hother (pixelAddr c.stride j x) (by omega)
    exact (congrArg (fun v : Byte => if v.getLsbD (pixelBit x) then Color.black else Color.white) hread).trans
      (ha j x hj hw hs)

section
variable {s t : State}

/-- What a raise leaves before it ends the job or resumes: the row cleared (60_exceptions.md R366). -/
theorem State.rowCounted_of_clearRow {u : State} (hi : s.Inv) (hp : s.phase.inFaxRow = true)
    (h : s.cursorOpen.clearRow = some u) (hop : s.cfg.op ≠ .decodeG4) :
    s.RowCounted { u.refInvalidated with failures := u.failures + 1 } := by
  have hs := State.inv_inFaxRow hi hp
  obtain ⟨⟨⟨hcfg, hrow, hout⟩, hclear⟩, hfail⟩ := hs.rowGivenUp_of_clearRow h
  have hcleared := Buffer.rowCleared_clear hs.out_wf hs.row_fits
  obtain ⟨-, rfl⟩ := State.clearRow_some h
  exact {
    cfg_eq := hcfg
    row_eq := hrow
    out_same := hout
    clear := hclear
    job := rfl
    a0_eq := rfl
    pos_eq := rfl
    ref_eq := rfl
    failures_eq := congrArg (· + 1) hfail
    op_ne := hop
    padding := fun hpad => PaddingWhite.of_rowCleared hpad hcleared }

/-- A raise in a fax line (60_exceptions.md R364 to R368). -/
theorem FaxStep.of_raise {e : FaxError} (hi : s.Inv) (hp : s.phase.inFaxRow = true) (h : s.raise e = .next t) :
    FaxStep s t := by
  have hs := State.inv_inFaxRow hi hp
  have hr := State.imageRange_of_inv hi
  rcases State.raise_next h with ⟨-, rfl⟩ | ⟨u, hu, -, -, rfl⟩ | ⟨u, hu, -, hop, rfl⟩
  · exact FaxStep.of_finish hi rfl
      ⟨hr.a0_ge, hr.a0_le, hr.pos_le, hr.row_le, hr.failures_le, hr.ref_length⟩ nofun
  · have hcleared := Buffer.rowCleared_clear hs.out_wf hs.row_fits
    obtain ⟨-, rfl⟩ := State.clearRow_some hu
    refine FaxStep.of_finish hi rfl
      ⟨hr.a0_ge, hr.a0_le, hr.pos_le, hr.row_le, hr.failures_le, hr.ref_length⟩ fun b hb => ?_
    obtain rfl := Option.some_inj.mp hb
    exact ⟨hcleared.2.1, fun hpad => PaddingWhite.of_rowCleared hpad hcleared⟩
  · exact (State.rowCounted_of_clearRow hi hp hu hop).faxStep_of_resumeFrom hi hp

/-- A raise in a fax line gives a next state. -/
theorem FaxStep.exists_of_raise (hi : s.Inv) (hp : s.phase.inFaxRow = true) (e : FaxError) :
    ∃ t, s.raise e = .next t ∧ FaxStep s t := by
  obtain ⟨t, ht, -⟩ := (State.inv_inFaxRow hi hp).raise e
  exact ⟨t, ht, FaxStep.of_raise hi hp ht⟩

/-- A missing EOL (44_image_decode.md R240, R244, R254). -/
theorem FaxStep.of_missingEol (hi : s.Inv) (hp : s.phase = .lineStart) : FaxStep s s.missingEol := by
  have hfax : s.phase.inFaxRow = true := by rw [hp]; rfl
  have hs := State.inv_inFaxRow hi hfax
  have hr := State.imageRange_of_inv hi
  have hop := ((State.phaseLegal_lineStart hp).mp hi.phaseLegal).2
  rcases s.missingEol_cases with heq | ⟨-, heq⟩ | heq
  · rw [heq]
    exact FaxStep.of_finish hi rfl hr nofun
  · rw [heq]
    refine FaxStep.of_finish hi rfl hr fun b hb => ?_
    obtain rfl := Option.some_inj.mp hb
    exact ⟨hs.out_wf, id⟩
  · rw [heq]
    have hcounted : s.RowCounted { s.refInvalidated with failures := s.failures + 1 } := {
      cfg_eq := rfl
      row_eq := rfl
      out_same := ⟨rfl, hs.out_wf, fun _ _ => rfl⟩
      clear := State.read_lineStart hi hp
      job := rfl
      a0_eq := rfl
      pos_eq := rfl
      ref_eq := rfl
      failures_eq := rfl
      op_ne := hop
      padding := id }
    exact hcounted.faxStep_of_resumeFrom hi hfax

end

end Sys2Proof.Machine
end

section
/-!
PROOF, third part of O52, O53, O57, O58 and O59: the instructions of the fax line decoders. A word read holds a 1, which
lies inside the data, so the cursor ends at most 12 bits past the end; what the word leaves is work on the line.
-/
namespace Sys2Proof.Machine

variable {s t u : State}

/-! ## The bits of a word read -/

/-- A 1 in the look-ahead is a bit of the data: past the end, and past the look-ahead, the bits read are zeros. -/
theorem State.one_inside {w : List Bool} {m j : Nat} (hw : w.isPrefixOf (padded (s.bitsFrom s.cur m)) = true)
    (hj : w[j]? = some true) : s.cur + j < s.inBits := by
  obtain ⟨r, hr⟩ := List.isPrefixOf_iff_prefix.mp hw
  have hone : (s.bitsFrom s.cur m ++ List.replicate 13 false)[j]? = some true := by
    rw [show s.bitsFrom s.cur m ++ List.replicate 13 false = w ++ r from hr.symm,
      List.getElem?_append_left (List.getElem?_eq_some_iff.mp hj).1, hj]
  rcases Nat.lt_or_ge j m with hlt | hge
  · rw [List.getElem?_append_left (by simpa using hlt), State.getElem?_bitsFrom _ _ hlt] at hone
    refine Nat.lt_of_not_le fun hpast => ?_
    rw [State.inBit_past_end hpast] at hone
    cases hone
  · rw [List.getElem?_append_right (by simpa using hge), List.getElem?_replicate] at hone
    split at hone <;> cases hone

/-- A word of `n` bits with a 1 in it stands at the cursor. -/
def State.Consumes (s : State) (n : Nat) : Prop := 1 ≤ n ∧ s.cur + n ≤ s.inBits + 12

theorem State.consumes_of_word {w : List Bool} (hw : w.isPrefixOf (padded (s.peek 13)) = true) (hone : true ∈ w)
    (hlen : w.length ≤ 13) : s.Consumes w.length := by
  obtain ⟨j, hj⟩ := List.mem_iff_getElem?.mp hone
  have hin := State.one_inside hw hj
  have hlt := (List.getElem?_eq_some_iff.mp hj).1
  exact ⟨by omega, by omega⟩

theorem one_mem_runWords (c : Color) : ∀ i ∈ runWords c, true ∈ encode 0 i := by
  cases c <;> decide +kernel

theorem one_mem_modeWords : ∀ i ∈ modeWords, true ∈ encode 0 i ∧ (encode 0 i).length ≤ 13 := by decide +kernel

/-! ## Work left by a word -/

/-- What a word of `n` bits leaves that wrote the pixels up to `x`. -/
theorem State.Consumes.lineWork {n x : Nat} (hc : s.Consumes n) {b : Buffer}
    (hb : s.out.Written s.cfg.stride s.row s.reached x b) (hx : s.reached ≤ x) (hw : x ≤ s.cfg.width) (phase : Phase)
    {a0 : Int} (ha : -1 ≤ a0 ∧ a0 ≤ (s.cfg.width : Int)) (color : Color) {pos : Nat} (hpos : pos ≤ s.cfg.width) :
    s.LineWork { s with cur := s.cur + n, out := b, phase := phase, a0 := a0, color := color, pos := pos } x :=
  ⟨rfl, rfl, rfl, rfl, rfl, Nat.lt_add_of_pos_right hc.1, hc.2, hb, hx, hw, ha.1, ha.2, hpos⟩

namespace State.LineWork

variable {x : Nat}

theorem withPhase (w : s.LineWork u x) (phase : Phase) : s.LineWork { u with phase := phase } x :=
  ⟨w.job, w.row_eq, w.ref_eq, w.refValid_eq, w.failures_eq, w.cur_lt, w.cur_le, w.written, w.reached_le, w.le_width,
    w.a0_ge, w.a0_le, w.pos_le⟩

/-- The line ends where its row lies in the output buffer. -/
theorem exists_endLine (w : s.LineWork u x) (hi : s.Inv) (hp : s.phase.inFaxRow = true) :
    ∃ t, u.endLine = .next t ∧ FaxStep s t := by
  have hfits : (u.row + 1) * u.cfg.stride ≤ u.out.size := by
    rw [w.row_eq, w.cfg_eq, w.written.size_eq]
    exact (State.inv_inFaxRow hi hp).row_fits
  obtain ⟨t, ht, -⟩ := State.endLine_ends hfits
  exact ⟨t, ht, w.faxStep_of_endLine hi hp ht⟩

/-- A 2D mode that leaves `a0` where its pixels end is done: the next mode follows, or the line ends. -/
theorem exists_endMode (w : s.LineWork u x) (hi : s.Inv) (hp : s.phase.inFaxRow = true)
    (hop : s.cfg.op ≠ .decodeG31D) (ha : u.a0 = (x : Int)) : ∃ t, u.endMode = .next t ∧ FaxStep s t := by
  by_cases hend : u.a0 = (u.cfg.width : Int)
  · rw [State.endMode, if_pos hend]
    exact w.exists_endLine hi hp
  · refine ⟨_, if_neg hend, (w.withPhase .modeWord).faxStep hi hp rfl ?_ ?_ nofun⟩
    · exact (congrArg Int.toNat ha).trans (Int.toNat_natCast x)
    · obtain ⟨hdec, -⟩ := State.phaseLegal_inFaxRow hi hp
      refine (State.phaseLegal_modeWord (s := { u with phase := .modeWord }) rfl).mpr
        ⟨w.decodingRow hdec, w.cfg_eq ▸ hop, State.a0Inside_iff.mpr ⟨w.a0_ge, ?_⟩⟩
      exact lt_of_le_of_ne (w.cfg_eq.symm ▸ w.a0_le) hend

/-- The line goes on in a run. -/
theorem faxStep_run (w : s.LineWork u x) (hi : s.Inv) (hp : s.phase.inFaxRow = true) {site : RunSite} {x0 total : Nat}
    (hphase : u.phase = .run site x0 total) (hsite : u.SiteLegal x0 site) (hx : x0 + total = x) : FaxStep s u := by
  obtain ⟨hdec, -⟩ := State.phaseLegal_inFaxRow hi hp
  refine w.faxStep hi hp (by rw [hphase]; rfl) (by rw [State.reached, hphase, ← hx]) ?_ (by rw [hphase]; nofun)
  exact (State.phaseLegal_run hphase).mpr ⟨w.decodingRow hdec, hsite, hx ▸ w.cfg_eq ▸ w.le_width⟩

/-- The line goes on in uncompressed mode. -/
theorem faxStep_uncompressed (w : s.LineWork u x) (hi : s.Inv) (hp : s.phase.inFaxRow = true)
    (hphase : u.phase = .uncompressed) (hop : u.cfg.op = .decodeG4) (hinside : u.a0Inside = true) (hle : u.a0p ≤ u.pos)
    (hx : u.pos = x) : FaxStep s u := by
  obtain ⟨hdec, -⟩ := State.phaseLegal_inFaxRow hi hp
  refine w.faxStep hi hp (by rw [hphase]; rfl) (by rw [State.reached, hphase, ← hx]) ?_ (by rw [hphase]; nofun)
  exact (State.phaseLegal_uncompressed hphase).mpr ⟨w.decodingRow hdec, hop, hinside, hle⟩

end State.LineWork

/-! ## Run words -/

/-- A run word that ends its run (42_line_decoder_1d.md R171, 43_line_decoder_2d.md R207). -/
theorem FaxStep.exists_of_endRun {site : RunSite} {x total r n : Nat} {b : Buffer} (hi : s.Inv)
    (hp : s.phase = .run site x total) (hc : s.Consumes n) (hr : x + (total + r) ≤ s.cfg.width)
    (hb : s.out.Written s.cfg.stride s.row (x + total) (x + (total + r)) b) :
    ∃ t, State.endRun { s with cur := s.cur + n, out := b } site x (total + r) = .next t ∧ FaxStep s t := by
  have hfax : s.phase.inFaxRow = true := by rw [hp]; rfl
  have hreached : s.reached = x + total := by rw [State.reached, hp]
  have hrange := State.imageRange_of_inv hi
  obtain ⟨-, hsite, -⟩ := (State.phaseLegal_run hp).mp hi.phaseLegal
  rw [← hreached] at hb
  have hle : s.reached ≤ x + (total + r) := by omega
  cases site with
  | line1D =>
    obtain ⟨hop, rfl, hpos⟩ := hsite
    have w (phase : Phase) (color : Color) :=
      hc.lineWork hb hle hr phase ⟨hrange.a0_ge, hrange.a0_le⟩ color (pos := s.pos + (total + r)) hr
    by_cases hend : s.pos + (total + r) = s.cfg.width
    · obtain ⟨t, ht, hstep⟩ := (w s.phase s.color).exists_endLine hi hfax
      exact ⟨t, (if_pos hend).trans ht, hstep⟩
    · have w' := w (.run .line1D (s.pos + (total + r)) 0) (flipColor s.color)
      exact ⟨_, if_neg hend, w'.faxStep_run hi hfax (site := .line1D) rfl ⟨hop, rfl, lt_of_le_of_ne hr hend⟩ rfl⟩
  | horizontal1 =>
    obtain ⟨hop, hinside, rfl⟩ := hsite
    have w := hc.lineWork hb hle hr (.run .horizontal2 (s.a0p + (total + r)) 0) ⟨hrange.a0_ge, hrange.a0_le⟩ s.color
      hrange.pos_le
    exact ⟨_, rfl, w.faxStep_run hi hfax (site := .horizontal2) rfl ⟨hop, hinside, Nat.le_add_right _ _⟩ rfl⟩
  | horizontal2 =>
    obtain ⟨hop, -, -⟩ := hsite
    have w := hc.lineWork hb hle hr s.phase (a0 := ((x + (total + r) : Nat) : Int)) (by omega) s.color hrange.pos_le
    exact w.exists_endMode hi hfax hop rfl

theorem FaxStep.exists_of_runWord {i : Instr} {e : RunEntry} {site : RunSite} {x total : Nat} (hi : s.Inv)
    (hp : s.phase = .run site x total) (he : i.runEntry = some e)
    (hs : runSpaceHas e.space (s.runColor site) = true) (hc : s.Consumes (encode 0 i).length) :
    ∃ t, exec i s = .next t ∧ FaxStep s t := by
  have hfax : s.phase.inFaxRow = true := by rw [hp]; rfl
  rw [exec_runWord_decode hp he hs]
  rcases Nat.lt_or_ge s.cfg.width (x + total + e.run) with hover | hfits
  · rw [State.decodeRunWord, if_pos hover]
    exact FaxStep.exists_of_raise hi hfax .overrunError
  · obtain ⟨b, hpaint, hb⟩ := (State.inv_run hi hp).paint hfits (x + total) (s.runColor site)
    have hwritten := Buffer.Written.of_painted hb
    rw [State.decodeRunWord_of_paint hfits hpaint]
    rw [Nat.add_assoc] at hfits hwritten
    by_cases hterm : e.terminating = true
    · rw [if_pos hterm]
      exact FaxStep.exists_of_endRun hi hp hc hfits hwritten
    · rw [if_neg hterm]
      have hreached : s.reached = x + total := by rw [State.reached, hp]
      have hrange := State.imageRange_of_inv hi
      obtain ⟨-, hsite, -⟩ := (State.phaseLegal_run hp).mp hi.phaseLegal
      have w := hc.lineWork (hreached.symm ▸ hwritten) (by omega) hfits (.run site x (total + e.run))
        ⟨hrange.a0_ge, hrange.a0_le⟩ s.color hrange.pos_le
      refine ⟨_, rfl, w.faxStep_run hi hfax rfl ?_ rfl⟩
      cases site with
      | line1D | horizontal1 | horizontal2 => exact hsite

/-- A step in a run (41_run_length_codes.md R150 to R153). -/
theorem FaxStep.exists_of_run {site : RunSite} {x total : Nat} (hi : s.Inv) (hp : s.phase = .run site x total) :
    ∃ t, step s = .next t ∧ FaxStep s t := by
  have hfax : s.phase.inFaxRow = true := by rw [hp]; rfl
  have hfetch := State.fetch_run hp
  cases hd : decodeRun (s.runColor site) (padded (s.peek 13)) with
  | reject e =>
    have hnone : s.fetch = .event .noRunWord := by
      rcases decode_reject (sp := .run (s.runColor site)) hd with ⟨_, h, -⟩ | ⟨_, -, rfl⟩ | h
      · cases h
      · rw [hfetch, hd]
        rfl
      · cases h
    rw [step_event hnone]
    exact FaxStep.exists_of_raise hi hfax .malformedCode
  | word i =>
    rw [hd] at hfetch
    rw [step_word hfetch]
    obtain ⟨rfl | hmem, hbits⟩ := decodeRun_word hd
    · rw [exec_eol_inside_line (.inl ⟨site, x, total, hp⟩)]
      exact FaxStep.exists_of_raise hi hfax .prematureEOL
    · obtain ⟨hadmits, hentry, -⟩ := runWords_entries _ i hmem
      obtain ⟨e, he⟩ := Option.isSome_iff_exists.mp hentry
      have hs : runSpaceHas e.space (s.runColor site) = true := by
        cases i with
        | eol _ => cases he
        | _ => simpa only [Space.admits, he] using hadmits
      exact FaxStep.exists_of_runWord hi hp he hs
        (State.consumes_of_word hbits (one_mem_runWords _ i hmem) (runWords_length _ i hmem).2)

end Sys2Proof.Machine
end

section
/-!
PROOF, fourth part of O52, O53, O57, O58 and O59: mode words, uncompressed mode and the framing of Group 3 lines, and
with them every step of a fax decode job.
-/
namespace Sys2Proof.Machine

variable {s t : State}

/-! ## Mode words -/

theorem modeWords_cases {i : Instr} (h : i ∈ modeWords) : i = .p ∨ i = .h ∨ ∃ d, (i, d) ∈ verticalModes := by
  simp only [modeWords, List.mem_cons, List.not_mem_nil, or_false] at h
  rcases h with rfl | rfl | rfl | rfl | rfl | rfl | rfl | rfl | rfl <;> simp [verticalModes]

theorem FaxStep.exists_of_pass (hi : s.Inv) (hp : s.phase = .modeWord) (hc : s.Consumes 4) :
    ∃ t, exec .p s = .next t ∧ FaxStep s t := by
  obtain ⟨hready, ha, hlen⟩ := State.inv_modeWord hi hp
  obtain ⟨-, hop, -⟩ := (State.phaseLegal_modeWord hp).mp hi.phaseLegal
  have hb2 := State.b2_le_width hlen
  have hlt := State.a0_lt_b1 ha
  have hle := State.b1_le_b2 hlen
  obtain ⟨b, hpaint, hb⟩ := hready.paint hb2 s.a0p s.color
  have hreached : s.reached = s.a0p := by rw [State.reached, hp]
  have w := hc.lineWork (hreached.symm ▸ Buffer.Written.of_painted hb) (by rw [hreached, State.a0p]; omega) hb2 s.phase
    (a0 := (s.b2 : Int)) (by omega) s.color (State.imageRange_of_inv hi).pos_le
  rw [exec_p_modeWord hp, State.pass_of_paint hpaint]
  exact w.exists_endMode hi (by rw [hp]; rfl) hop rfl

theorem FaxStep.exists_of_vertical {i : Instr} {d : Int} (hi : s.Inv) (hp : s.phase = .modeWord)
    (h : (i, d) ∈ verticalModes) (hc : s.Consumes (encode 0 i).length) :
    ∃ t, exec i s = .next t ∧ FaxStep s t := by
  have hfax : s.phase.inFaxRow = true := by rw [hp]; rfl
  obtain ⟨hready, -, -⟩ := State.inv_modeWord hi hp
  obtain ⟨-, hop, -⟩ := (State.phaseLegal_modeWord hp).mp hi.phaseLegal
  have hrange := State.imageRange_of_inv hi
  have ha0 := hrange.a0_ge
  rw [exec_vertical_modeWord hp h]
  by_cases hin : s.a0 < (s.b1 : Int) + d ∧ (s.b1 : Int) + d ≤ (s.cfg.width : Int)
  · obtain ⟨x, hx⟩ := Int.eq_ofNat_of_zero_le (show 0 ≤ (s.b1 : Int) + d by omega)
    have hxw : x ≤ s.cfg.width := by omega
    obtain ⟨b, hpaint, hb⟩ := hready.paint hxw s.a0p s.color
    have hpaint' : s.paint s.a0p ((s.b1 : Int) + d).toNat s.color = some { s with out := b } := by
      rw [hx, Int.toNat_natCast, hpaint]
    have hreached : s.reached = s.a0p := by rw [State.reached, hp]
    have w := hc.lineWork (hreached.symm ▸ Buffer.Written.of_painted hb) (by rw [hreached, State.a0p]; omega) hxw
      s.phase (a0 := (s.b1 : Int) + d) (by omega) (flipColor s.color) hrange.pos_le
    rw [State.vertical_of_paint hin hpaint']
    exact w.exists_endMode hi hfax hop hx
  · rw [State.vertical_of_out_of_range hin]
    exact FaxStep.exists_of_raise hi hfax .overrunError

theorem FaxStep.exists_of_horizontal (hi : s.Inv) (hp : s.phase = .modeWord) (hc : s.Consumes 3) :
    ∃ t, exec .h s = .next t ∧ FaxStep s t := by
  obtain ⟨hready, -, -⟩ := State.inv_modeWord hi hp
  obtain ⟨-, hop, hinside⟩ := (State.phaseLegal_modeWord hp).mp hi.phaseLegal
  have hrange := State.imageRange_of_inv hi
  have hreached : s.reached = s.a0p := by rw [State.reached, hp]
  have w := hc.lineWork (Buffer.Written.refl hready.out_wf s.reached s.a0p) hreached.le
    (Int.toNat_le.mpr hrange.a0_le) (.run .horizontal1 s.a0p 0) ⟨hrange.a0_ge, hrange.a0_le⟩ s.color hrange.pos_le
  exact ⟨_, horizontalModeBegins s hp,
    w.faxStep_run hi (by rw [hp]; rfl) (site := .horizontal1) rfl ⟨hop, hinside, rfl⟩ rfl⟩

theorem FaxStep.exists_of_extension (hi : s.Inv) (hp : s.phase = .modeWord) (hop : s.cfg.op = .decodeG4)
    (hc : s.Consumes 10) : ∃ t, exec .extU s = .next t ∧ FaxStep s t := by
  obtain ⟨hready, -, -⟩ := State.inv_modeWord hi hp
  obtain ⟨-, -, hinside⟩ := (State.phaseLegal_modeWord hp).mp hi.phaseLegal
  have hrange := State.imageRange_of_inv hi
  have hle : s.a0p ≤ s.cfg.width := Int.toNat_le.mpr hrange.a0_le
  have hreached : s.reached = s.a0p := by rw [State.reached, hp]
  have w := hc.lineWork (Buffer.Written.refl hready.out_wf s.reached s.a0p) hreached.le hle .uncompressed
    ⟨hrange.a0_ge, hrange.a0_le⟩ s.color hle
  exact ⟨_, extensionEntersUncompressedMode s hp hop,
    w.faxStep_uncompressed hi (by rw [hp]; rfl) rfl hop hinside (Nat.le_refl _) rfl⟩

/-- A step at a mode position (43_line_decoder_2d.md R204 to R219). -/
theorem FaxStep.exists_of_modeWord (hi : s.Inv) (hp : s.phase = .modeWord) :
    ∃ t, step s = .next t ∧ FaxStep s t := by
  have hfax : s.phase.inFaxRow = true := by rw [hp]; rfl
  have hfetch := State.fetch_modeWord hp
  obtain ⟨hadmits, hbits⟩ := decodeMode_admitted (decide (s.cfg.op = .decodeG4)) (thirteen_le_length_padded (s.peek 13))
  generalize decodeMode (decide (s.cfg.op = .decodeG4)) (padded (s.peek 13)) = i at hfetch hadmits hbits
  have hmalformed {g4 : Option Bool} (hexec : exec i s = s.malformedMode g4)
      (hg4 : g4 = none ∨ g4 = some (decide (s.cfg.op = .decodeG4))) : ∃ t, exec i s = .next t ∧ FaxStep s t := by
    rw [hexec, State.malformedMode_raises hp hg4]
    exact FaxStep.exists_of_raise hi hfax .malformedCode
  rw [step_word hfetch]
  rcases admits_mode hadmits with rfl | hmode | ⟨x, rfl⟩ | ⟨hop, rfl⟩ | ⟨hop, sel, hsel, rfl⟩ | ⟨hop, sel, rfl⟩
  · rw [exec_eol_inside_line (.inr hp)]
    exact FaxStep.exists_of_raise hi hfax .prematureEOL
  · obtain ⟨hone, hlen⟩ := one_mem_modeWords i hmode
    have hc := State.consumes_of_word hbits hone hlen
    rcases modeWords_cases hmode with rfl | rfl | ⟨d, hd⟩
    · exact FaxStep.exists_of_pass hi hp hc
    · exact FaxStep.exists_of_horizontal hi hp hc
    · exact FaxStep.exists_of_vertical hi hp hd hc
  · exact hmalformed rfl (.inl rfl)
  · exact FaxStep.exists_of_extension hi hp (of_decide_eq_true hop)
      (State.consumes_of_word hbits (by decide) (by decide))
  · exact hmalformed (if_neg hsel) (.inr (congrArg some hop.symm))
  · exact hmalformed rfl (.inr (congrArg some hop.symm))

/-! ## Uncompressed mode -/

theorem uncompressedWord_cases (t : Bool) (z : Nat) :
    (z ≤ 10 ∧ ((∃ p : Nat × Nat, (uncompressedWord t z, p) ∈ imageWords) ∨
      ∃ n, (uncompressedWord t z, n) ∈ exitWords t)) ∨
      uncompressedWord t z = .uInvalid := by
  rcases Nat.lt_or_ge z 11 with hlt | hge
  · refine .inl ⟨by omega, ?_⟩
    interval_cases z <;> simp [uncompressedWord, imageWords, exitWords]
  · obtain ⟨k, rfl⟩ := Nat.exists_eq_add_of_le' hge
    exact .inr rfl

theorem State.consumes_uncompressedWord {b : Bool} {z : Nat} (hz : z ≤ 10)
    (h : (encode 0 (uncompressedWord b z)).isPrefixOf (padded (s.peek 13)) = true) :
    s.Consumes (encode 0 (uncompressedWord b z)).length := by
  refine State.consumes_of_word h ?_ ?_ <;> rw [encode_uncompressedWord b hz]
  · simp
  · simp only [List.length_append, List.length_replicate, List.length_cons]
    split <;> simp <;> omega

theorem FaxStep.exists_of_imageWord {i : Instr} {z n : Nat} (hi : s.Inv) (hp : s.phase = .uncompressed)
    (h : (i, z, n) ∈ imageWords) (hc : s.Consumes (encode 0 i).length) :
    ∃ t, exec i s = .next t ∧ FaxStep s t := by
  have hfax : s.phase.inFaxRow = true := by rw [hp]; rfl
  obtain ⟨-, hop, hinside, hle⟩ := (State.phaseLegal_uncompressed hp).mp hi.phaseLegal
  have hrange := State.imageRange_of_inv hi
  rcases Nat.lt_or_ge s.cfg.width (s.pos + z + n) with hover | hfits
  · obtain ⟨black, rfl, hexec⟩ := exec_imageWord h s
    rw [Nat.add_assoc] at hover
    simp only [hexec, State.uncompressedImage, hp, if_pos hover]
    exact FaxStep.exists_of_raise hi hfax .overrunError
  · obtain ⟨b, d, hb, hd, hexec⟩ := (uncompressedImageWords s i z n hi hp h).1 hfits
    have hwritten := (Buffer.Written.of_painted hb).trans (.of_painted hd) (by omega) (by omega)
    have hreached : s.reached = s.pos := by rw [State.reached, hp]
    have w := hc.lineWork (b := d) (by rw [hreached]; exact hwritten) (by omega) hfits s.phase
      ⟨hrange.a0_ge, hrange.a0_le⟩ s.color hfits
    exact ⟨_, hexec, w.faxStep_uncompressed hi hfax hp hop hinside (hle.trans (by simp only; omega)) rfl⟩

theorem FaxStep.exists_of_exitWord {i : Instr} {n : Nat} {b : Bool} (hi : s.Inv) (hp : s.phase = .uncompressed)
    (h : (i, n) ∈ exitWords b) (hc : s.Consumes (encode 0 i).length) : ∃ t, exec i s = .next t ∧ FaxStep s t := by
  have hfax : s.phase.inFaxRow = true := by rw [hp]; rfl
  obtain ⟨hready, -⟩ := State.inv_uncompressed hi hp
  obtain ⟨-, hop, -, -⟩ := (State.phaseLegal_uncompressed hp).mp hi.phaseLegal
  rw [exec_exitWord h]
  rcases Nat.lt_or_ge s.cfg.width (s.pos + n) with hover | hfits
  · rw [State.uncompressedExit_of_overrun hp hover]
    exact FaxStep.exists_of_raise hi hfax .overrunError
  · obtain ⟨d, hpaint, hd⟩ := hready.paint hfits s.pos .white
    have hreached : s.reached = s.pos := by rw [State.reached, hp]
    have w := hc.lineWork (b := d) (by rw [hreached]; exact .of_painted hd) (by omega) hfits s.phase
      (a0 := ((s.pos + n : Nat) : Int)) (by omega) (tagColor b) hfits
    rw [State.uncompressedExit_of_paint hp hfits hpaint]
    exact w.exists_endMode hi hfax (fun hop' => Op.noConfusion (hop.symm.trans hop')) rfl

/-- A step in uncompressed mode (43_line_decoder_2d.md R220 to R233). -/
theorem FaxStep.exists_of_uncompressed (hi : s.Inv) (hp : s.phase = .uncompressed) :
    ∃ t, step s = .next t ∧ FaxStep s t := by
  have hbits := encode_decodeUncompressed (thirteen_le_length_padded (s.peek 13))
  have hfetch := State.fetch_uncompressed hp
  rw [decodeUncompressed_eq] at hbits hfetch
  generalize leadingZeros (padded (s.peek 13)) = z at hbits hfetch
  generalize (padded (s.peek 13)).getD (z + 1) false = b at hbits hfetch
  rw [step_word hfetch]
  rcases uncompressedWord_cases b z with ⟨hz, ⟨⟨zeros, n⟩, himage⟩ | ⟨n, hexit⟩⟩ | hinvalid
  · exact FaxStep.exists_of_imageWord hi hp himage (State.consumes_uncompressedWord hz hbits)
  · exact FaxStep.exists_of_exitWord hi hp hexit (State.consumes_uncompressedWord hz hbits)
  · rw [hinvalid, exec_uInvalid hp]
    exact FaxStep.exists_of_raise hi (by rw [hp]; rfl) .malformedCode

/-! ## Framing -/

/-- At the start of a line, or at its tag bit, its row is about to be decoded, whatever is read. -/
theorem State.rowOpens_advanced {n : Nat} (hi : s.Inv) (hp : s.phase.inFaxRow = true) (hreached : s.reached = 0)
    (hn : 1 ≤ n) (hnear : s.cursorNear → s.cur + n ≤ s.inBits + 13) : s.RowOpens (s.advanced n) := by
  obtain ⟨hdec, -⟩ := State.phaseLegal_inFaxRow hi hp
  have hr := State.imageRange_of_inv hi
  exact {
    job := rfl
    decoding := hdec
    out_wf := (State.inv_inFaxRow hi hp).out_wf
    range := ⟨hr.a0_ge, hr.a0_le, hr.pos_le, hr.row_le, hr.failures_le, hr.ref_length⟩
    clear := fun d hd => State.clear_from_reached hi hp (by rw [hreached]; simpa using hd)
    padding := id
    cur_lt := Nat.lt_add_of_pos_right hn
    cur_near := hnear }

/-- An EOL found at the start of a line lies inside the data. -/
theorem State.eol_inside {z : Nat} (hp : s.phase = .lineStart)
    (h : (encode 0 (.eol z)).isPrefixOf (padded s.window) = true) : s.cur + (z + 12) ≤ s.inBits := by
  have hone : (encode 0 (.eol z))[z + 11]? = some true := by
    have hword := encode_eol_append 0 z []
    rw [List.append_nil] at hword
    rw [hword, List.getElem?_append_right (by simp)]
    simp
  have hwindow : ∃ m, s.window = s.bitsFrom s.cur m := by
    rw [State.window, hp]
    exact (Bool.eq_false_or_eq_true s.cfg.fillBits).elim (fun hf => ⟨_, if_pos hf⟩)
      fun hf => ⟨12, by simp [hf, State.peek]⟩
  obtain ⟨m, hm⟩ := hwindow
  have := State.one_inside (hm ▸ h) hone
  omega

theorem FaxStep.exists_of_lineStart (hi : s.Inv) (hp : s.phase = .lineStart) :
    ∃ t, step s = .next t ∧ FaxStep s t := by
  obtain ⟨-, hop⟩ := (State.phaseLegal_lineStart hp).mp hi.phaseLegal
  have hfetch := State.fetch_lineStart hp
  cases hd : decodeFrame s.cfg.fillBits s.window with
  | reject e =>
    have hnone : s.fetch = .event .noEol := by
      rcases decode_reject (sp := .frame s.cfg.fillBits) hd with ⟨_, -, rfl⟩ | ⟨_, h, -⟩ | h
      · rw [hfetch, hd]
        rfl
      · cases h
      · cases h
    rw [step_event hnone]
    exact ⟨_, rfl, FaxStep.of_missingEol hi hp⟩
  | word i =>
    rw [hd] at hfetch
    rw [step_word hfetch]
    obtain ⟨z, rfl, hfill, hbits⟩ := decodeFrame_word hd
    have hin := State.eol_inside hp hbits
    have hopens := State.rowOpens_advanced (n := z + 12) hi (by rw [hp]; rfl) (by rw [State.reached, hp]) (by omega)
      fun _ => by omega
    exact ⟨_, exec_eol_lineStart hp hfill.symm, hopens.afterEol hi hop hin⟩

theorem FaxStep.exists_of_tagBit (hi : s.Inv) (hp : s.phase = .tagBit) : ∃ t, step s = .next t ∧ FaxStep s t := by
  obtain ⟨-, hop⟩ := (State.phaseLegal_tagBit hp).mp hi.phaseLegal
  have hopens := State.rowOpens_advanced (n := 1) hi (by rw [hp]; rfl) (by rw [State.reached, hp]) (Nat.le_refl 1)
    fun hnear => by have := hnear.2 hp; omega
  rw [step_word (State.fetch_tagBit hp)]
  split
  · refine ⟨_, exec_tag1_tagBit hp, hopens.start1D hi fun hop' => ?_⟩
    exact Op.noConfusion (hop.symm.trans hop')
  · rw [exec_tag0_tagBit hp]
    split
    · exact ⟨_, rfl, hopens.start2D hi fun hop' => Op.noConfusion (hop.symm.trans hop')⟩
    · exact FaxStep.exists_of_raise hi (by rw [hp]; rfl) .missingReferenceLine

/-! ## Every step of a fax decode job -/

theorem FaxStep.exists_of_inFaxRow (hi : s.Inv) (hp : s.phase.inFaxRow = true) :
    ∃ t, step s = .next t ∧ FaxStep s t := by
  cases h : s.phase with
  | lineStart => exact FaxStep.exists_of_lineStart hi h
  | tagBit => exact FaxStep.exists_of_tagBit hi h
  | run site x total => exact FaxStep.exists_of_run hi h
  | modeWord => exact FaxStep.exists_of_modeWord hi h
  | uncompressed => exact FaxStep.exists_of_uncompressed hi h
  | idle | lzw | encodeMode | encodeRun1 | encodeRun2 | encodeEnd => simp [h, Phase.inFaxRow] at hp

theorem FaxStep.of_step (hi : s.Inv) (hp : s.phase.inFaxRow = true) (h : step s = .next t) : FaxStep s t := by
  obtain ⟨u, hu, hstep⟩ := FaxStep.exists_of_inFaxRow hi hp
  obtain rfl := Host.Outcome.next.inj (hu.symm.trans h)
  exact hstep

/-- Settles O57: what every step of a fax decode job gives says it of both buffers. -/
theorem paddingIsNeverWritten : Obligations.PaddingIsNeverWritten := fun s t hi hrun hfax hpad h => by
  have hstep := FaxStep.of_step hi (State.inFaxRow_of_running hi hrun hfax) h
  obtain ⟨hcfg, -⟩ := runningJobIsUndisturbed s t hrun h
  refine ⟨fun hne => ?_, fun hidle r b hr hb => hstep.padding_returned hpad hidle r b hr hb⟩
  have hkept := hstep.padding_kept hpad hne
  rwa [← hcfg] at hkept

end Sys2Proof.Machine
end

section
/-!
PROOF, fifth part of O52, O53, O58 and O59: the steps of the LZW loop. A code moves the reader past bits of the data,
and what it outputs and adds keeps the string table as 10_state.md R43 says.
-/
namespace Sys2Proof.Machine

variable {s t : State}

/-- What every step of the LZW loop from `s` to `t` gives. -/
structure LzwStep (s t : State) : Prop where
  inv : t.Inv
  loops : t.phase ≠ .idle → t.phase = .lzw ∧ s.cur < t.cur ∧ t.cur ≤ s.inBits

/-! ## The string table -/

theorem LzwTable.set_of_above {t : LzwTable} {i : Nat} (h : ∀ j ∈ t.map Prod.fst, j < i) (w : List Byte) :
    t.set i w = t ++ [(i, w)] := by
  induction t with
  | nil => rfl
  | cons p t ih =>
    obtain ⟨j, v⟩ := p
    rw [List.map_cons, List.forall_mem_cons] at h
    obtain ⟨hj, ht⟩ := h
    rw [LzwTable.set, if_neg hj.not_gt, if_neg hj.ne', ih ht, List.cons_append]

/-- The parts of a legal table (10_state.md R43). -/
theorem State.lzwLegal_iff {s : State} :
    s.lzwLegal = true ↔ 258 ≤ s.lzwNext ∧ s.lzwNext ≤ 4094 ∧
      s.lzwTab.map Prod.fst = List.range' 258 (s.lzwNext - 258) ∧ (∀ e ∈ s.lzwTab, e.2 ≠ []) ∧
      s.lzwWidth = lzwWidthAt s.lzwNext ∧
      match s.lzwPrev with
      | none => s.lzwNext = 258
      | some p => p < s.lzwNext ∧ p ≠ 256 ∧ p ≠ 257 := by
  simp only [State.lzwLegal, Bool.and_eq_true, decide_eq_true_eq, List.all_eq_true, Bool.not_eq_true', and_assoc,
    List.isEmpty_eq_false_iff]
  cases s.lzwPrev <;> simp [and_assoc]

theorem State.lzwLegal_initTable (s : State) : s.initTable.lzwLegal = true := by
  have hnext : s.initTable.lzwNext = 258 := rfl
  rw [State.lzwLegal_iff, hnext]
  refine ⟨Nat.le_refl _, by omega, ?_, nofun, ?_, rfl⟩
  · simp [State.initTable]
  · simp [State.initTable, lzwWidthAt]

/-- The table after an entry was added for a code that names one (46_lzw_decoder.md R311, R312). -/
theorem EntryAdded.lzwLegal {code : Nat} {new : List Byte} (hs : s.lzwLegal = true) (hnew : new ≠ [])
    (hcode : code ≤ s.lzwNext ∧ code ≠ 256 ∧ code ≠ 257) (h : EntryAdded s code new t) : t.lzwLegal = true := by
  obtain ⟨-, rfl⟩ | ⟨hfull, rfl⟩ := h
  · exact s.lzwLegal_initTable
  · obtain ⟨hge, hle, hlisted, hne, -, -⟩ := State.lzwLegal_iff.mp hs
    have hset : s.lzwTab.set s.lzwNext new = s.lzwTab ++ [(s.lzwNext, new)] :=
      LzwTable.set_of_above (fun j hj => by
        rw [hlisted, List.mem_range'_1] at hj
        omega) new
    refine State.lzwLegal_iff.mpr ⟨by simp only; omega, by simp only; omega, ?_, ?_, rfl, ?_⟩
    · simp only [hset, List.map_append, hlisted, List.map_cons, List.map_nil]
      rw [show s.lzwNext + 1 - 258 = s.lzwNext - 258 + 1 by omega, List.range'_concat]
      simp only [Nat.one_mul]
      rw [show 258 + (s.lzwNext - 258) = s.lzwNext by omega]
    · simp only [hset, List.mem_append, List.mem_singleton]
      rintro e (he | rfl)
      · exact hne e he
      · exact hnew
    · exact ⟨Nat.lt_succ_of_le hcode.1, hcode.2⟩

/-! ## The loop goes on -/

/-- What no LZW code changes. -/
def State.lzwFrame (s : State) :
    Limits × Option JobConfig × Option JobResult × JobConfig × Phase × Nat × Nat × Int × Nat × Row × Nat :=
  (s.limits, s.request, s.result, s.cfg, s.phase, s.fill, s.row, s.a0, s.pos, s.ref, s.failures)

/-- The invariant of the loop after a code. -/
theorem State.inv_of_lzwFrame (hi : s.Inv) (hp : s.phase = .lzw) (hframe : t.lzwFrame = s.lzwFrame)
    (hwf : t.out.wf = true) (hsize : t.out.size = s.out.size) (hlzwOut : t.lzwOut ≤ s.out.size)
    (hclear : ∀ a, t.lzwOut ≤ a → t.out.cells.read a = 0) (htable : t.lzwLegal = true) : t.Inv := by
  obtain ⟨hbuf, -, hrange, -, hphase⟩ := State.inv_iff.mp hi
  have hloop := State.inv_lzw hi hp
  simp only [State.lzwFrame, Prod.mk.injEq] at hframe
  obtain ⟨hlimits, hrequest, hresult, hcfg, hphase', hfill, hrow, ha0, hpos, href, hfail⟩ := hframe
  obtain ⟨hin, -, hreq, hres⟩ := State.buffersWf_iff.mp hbuf
  obtain ⟨h1, h2, h3, h4, h5, h6, h7, -⟩ := State.inRange_iff.mp hrange
  have hpt : t.phase = .lzw := hphase'.trans hp
  refine State.inv_iff.mpr ⟨State.buffersWf_iff.mpr ⟨hcfg ▸ hin, hwf, hrequest ▸ hreq, hresult ▸ hres⟩, htable,
    State.inRange_iff.mpr ?_, State.restUnlisted_of_restClear hwf fun a ha => hclear a ?_, ?_⟩
  · rw [hcfg, hfill, hrow, ha0, hpos, href, hfail]
    exact ⟨h1, h2, h3, h4, h5, h6, h7, hloop.out_size ▸ hlzwOut⟩
  · rwa [State.unwrittenFrom, hpt] at ha
  · simp only [State.phaseLegal, hp] at hphase
    simpa only [State.phaseLegal, hpt, hcfg, hlimits, hsize] using hphase

/-- The output of a code, stored at `lzw_out` (46_lzw_decoder.md R313). -/
theorem State.InLzwLoop.output {w : List Byte} {b : Buffer} (h : s.InLzwLoop)
    (hb : s.out.Stored s.lzwOut (w.take (s.out.size - s.lzwOut)) b) :
    b.wf = true ∧ b.size = s.out.size ∧ s.lzwOut + min w.length (s.out.size - s.lzwOut) ≤ s.out.size ∧
      ∀ a, s.lzwOut + min w.length (s.out.size - s.lzwOut) ≤ a → b.cells.read a = 0 := by
  obtain ⟨hsize, hwf, -, hother⟩ := hb
  have hle := h.lzwOut_le
  refine ⟨hwf, hsize, by omega, fun a ha => ?_⟩
  rw [hother a (.inr (by rw [List.length_take]; omega))]
  exact h.rest_clear a (by omega)

/-- A code that outputs a string and adds an entry. -/
theorem LzwStep.of_added {w new : List Byte} {code : Nat} {b : Buffer} (hi : s.Inv) (hp : s.phase = .lzw)
    (hbits : s.cur < s.cur + s.lzwWidth ∧ s.cur + s.lzwWidth ≤ s.inBits)
    (hcode : code ≤ s.lzwNext ∧ code ≠ 256 ∧ code ≠ 257) (hnew : new ≠ [])
    (hb : s.out.Stored s.lzwOut (w.take (s.out.size - s.lzwOut)) b)
    (h : EntryAdded
      { s with
        cur := s.cur + s.lzwWidth
        out := b
        lzwOut := s.lzwOut + min w.length (s.out.size - s.lzwOut) } code new t) : LzwStep s t := by
  have hloop := State.inv_lzw hi hp
  obtain ⟨hwf, hsize, hle, hclear⟩ := hloop.output hb
  have htable : t.lzwLegal = true := h.lzwLegal (s := { s with
    cur := s.cur + s.lzwWidth
    out := b
    lzwOut := s.lzwOut + min w.length (s.out.size - s.lzwOut) }) hloop.table_legal hnew hcode
  obtain ⟨-, rfl⟩ | ⟨-, rfl⟩ := h
  · exact ⟨State.inv_of_lzwFrame hi hp rfl hwf hsize hle hclear htable, fun _ => ⟨hp, hbits⟩⟩
  · exact ⟨State.inv_of_lzwFrame hi hp rfl hwf hsize hle hclear htable, fun _ => ⟨hp, hbits⟩⟩

/-! ## The loop is left -/

theorem LzwStep.of_finish {u : State} {r : JobResult} (hi : s.Inv) (hframe : u.lzwFrame = s.lzwFrame)
    (htable : u.lzwLegal = true) (hlzwOut : u.lzwOut = s.lzwOut) (hr : ∀ b, r.out = some b → b.wf = true) :
    LzwStep s (u.finish r) := by
  obtain ⟨hbuf, -, hrange, -, -⟩ := State.inv_iff.mp hi
  simp only [State.lzwFrame, Prod.mk.injEq] at hframe
  obtain ⟨-, hrequest, -, hcfg, -, hfill, hrow, ha0, hpos, href, hfail⟩ := hframe
  obtain ⟨hin, -, hreq, -⟩ := State.buffersWf_iff.mp hbuf
  refine ⟨State.inv_finish (hcfg ▸ hin) (hrequest ▸ hreq) htable ?_ hr, fun hne => absurd rfl hne⟩
  rw [State.inRange_iff] at hrange ⊢
  rwa [hcfg, hfill, hrow, ha0, hpos, href, hfail, hlzwOut]

/-- The loop ends with its buffer, the predictor reversed (46_lzw_decoder.md R304, R314). -/
theorem LzwStep.exists_of_finishLzw {u : State} (hi : s.Inv) (hp : s.phase = .lzw) (hu : ∃ n, u = s.advanced n) :
    ∃ t, u.finishLzw = .next t ∧ LzwStep s t := by
  obtain ⟨n, rfl⟩ := hu
  have hloop := (State.inv_lzw hi hp).advanced n
  obtain ⟨t, ht, b, hb, -, hresult, -, -⟩ := State.finishLzw_ends hloop
  refine ⟨t, ht, ?_⟩
  obtain ⟨-, hwf⟩ := LzwOutput.size_wf hloop hb
  rcases State.finishLzw_next ht with ⟨-, u, hu, rfl⟩ | ⟨-, rfl⟩
  · obtain ⟨b', rfl⟩ := State.unpredict_some hu
    refine LzwStep.of_finish hi rfl hloop.table_legal rfl fun b'' hb'' => ?_
    have hres := congrArg JobResult.out (Option.some_inj.mp hresult)
    rw [hb''] at hres
    exact Option.some_inj.mp hres ▸ hwf
  · refine LzwStep.of_finish hi rfl hloop.table_legal rfl fun b'' hb'' => ?_
    have hres := congrArg JobResult.out (Option.some_inj.mp hresult)
    rw [hb''] at hres
    exact Option.some_inj.mp hres ▸ hwf

/-! ## Every code -/

/-- What an LZW code is, in the order of 46_lzw_decoder.md R304. -/
theorem decodeLzw_cases (next : Nat) (fresh : Bool) (code : Nat) :
    decodeLzw next fresh code = .lzwEnd ∨ decodeLzw next fresh code = .lzwClr ∨
      (258 ≤ code ∧ (fresh = true ∨ next < code) ∧ decodeLzw next fresh code = .lzwInvalid code) ∨
      (fresh = true ∧ code ≤ 255 ∧ decodeLzw next fresh code = .lzwFirst code) ∨
      (fresh = false ∧ (code < next ∧ code ≠ 256 ∧ code ≠ 257) ∧ decodeLzw next fresh code = .lzwEntry code) ∨
      (fresh = false ∧ code = next ∧ decodeLzw next fresh code = .lzwKwkwk next) ∨ next < 258 := by
  unfold decodeLzw
  split
  · exact .inl rfl
  · split
    · exact .inr (.inl rfl)
    · split
      · next hfresh =>
        split
        · next hge => exact .inr (.inr (.inl ⟨hge, .inl hfresh, rfl⟩))
        · next hlt => exact .inr (.inr (.inr (.inl ⟨hfresh, by omega, rfl⟩)))
      · next hfresh =>
        have hfresh' : fresh = false := Bool.eq_false_iff.mpr hfresh
        split
        · next hclear hend hlt => exact .inr (.inr (.inr (.inr (.inl ⟨hfresh', ⟨hlt, hend, hclear⟩, rfl⟩))))
        · split
          · next heq => exact .inr (.inr (.inr (.inr (.inr (.inl ⟨hfresh', heq, by rw [heq]⟩)))))
          · rcases Nat.lt_or_ge next 258 with hnext | hnext
            · exact .inr (.inr (.inr (.inr (.inr (.inr hnext)))))
            · exact .inr (.inr (.inl ⟨by omega, .inr (by omega), rfl⟩))

theorem State.fetch_lzw (hp : s.phase = .lzw) (hgo : s.lzwStops = false) :
    s.fetch = .word (decodeLzw s.lzwNext s.lzwPrev.isNone (bitsVal (s.window.take s.lzwWidth))) := by
  refine State.fetch_of_decode (sp := .lzw s.lzwWidth s.lzwNext s.lzwPrev.isNone) ?_ ?_ rfl
  · rw [State.space, hp]
  · rw [hgo]
    nofun

theorem nine_le_lzwWidthAt (next : Nat) : 9 ≤ lzwWidthAt next := by
  unfold lzwWidthAt
  split_ifs <;> omega

/-- A step of the LZW loop (46_lzw_decoder.md R303 to R314). -/
theorem LzwStep.exists_of_lzw (hi : s.Inv) (hp : s.phase = .lzw) : ∃ t, step s = .next t ∧ LzwStep s t := by
  have hloop := State.inv_lzw hi hp
  cases hstop : s.lzwStops with
  | true =>
    rw [State.step_of_lzwStops hp hstop]
    exact LzwStep.exists_of_finishLzw hi hp ⟨0, rfl⟩
  | false =>
    have hin : ¬(s.out.size ≤ s.lzwOut ∨ s.inBits < s.cur + s.lzwWidth) := fun h => by
      rw [State.lzwStops_iff.mpr h] at hstop
      cases hstop
    obtain ⟨hge, -, -, hwidth, hprev⟩ := State.lzwTable_of_legal hloop.table_legal
    have hnine := nine_le_lzwWidthAt s.lzwNext
    have hbits : s.cur < s.cur + s.lzwWidth ∧ s.cur + s.lzwWidth ≤ s.inBits := by omega
    have hfetch := State.fetch_lzw hp hstop
    generalize bitsVal (s.window.take s.lzwWidth) = code at hfetch
    rw [step_word hfetch]
    rcases decodeLzw_cases s.lzwNext s.lzwPrev.isNone code with h | h | ⟨h258, hbeyond, h⟩ | ⟨hfresh, hbyte, h⟩ |
      ⟨hfresh, hentry, h⟩ | ⟨hfresh, -, h⟩ | hlt
    · rw [h, exec_lzwEnd_lzw hp]
      exact LzwStep.exists_of_finishLzw hi hp ⟨s.lzwWidth, rfl⟩
    · rw [h]
      exact ⟨_, exec_lzwClr_lzw hp, State.inv_of_lzwFrame hi hp rfl hloop.out_wf rfl hloop.lzwOut_le hloop.rest_clear
        (s.advanced s.lzwWidth).lzwLegal_initTable, fun _ => ⟨hp, hbits⟩⟩
    · rw [h, exec_lzwInvalid_lzw hp h258 (hbeyond.imp_left Option.isNone_iff_eq_none.mp)]
      exact ⟨_, rfl, LzwStep.of_finish hi rfl hloop.table_legal rfl nofun⟩
    · have hnone := Option.isNone_iff_eq_none.mp hfresh
      obtain ⟨b, hb, hexec⟩ := lzwFirstDataCode s code hi hp hnone hbyte
      obtain ⟨hwf, hsize, hle, hclear⟩ := hloop.output hb
      obtain ⟨h1, h2, h3, h4, h5, -⟩ := State.lzwLegal_iff.mp hloop.table_legal
      rw [h]
      refine ⟨_, hexec, State.inv_of_lzwFrame hi hp rfl hwf hsize hle hclear ?_, fun _ => ⟨hp, hbits⟩⟩
      exact State.lzwLegal_iff.mpr ⟨h1, h2, h3, h4, h5, by simp only; omega⟩
    · obtain ⟨prev, hprev'⟩ := Option.isSome_iff_exists.mp (Option.isNone_eq_false_iff.mp hfresh)
      obtain ⟨f, w, v, b, t, -, -, hb, hexec, hadded⟩ :=
        lzwEntryCode s code prev hi hp hprev' hentry.1 hentry.2.1 hentry.2.2
      rw [h]
      exact ⟨t, hexec, LzwStep.of_added hi hp hbits ⟨hentry.1.le, hentry.2⟩ (by simp) hb hadded⟩
    · obtain ⟨prev, hprev'⟩ := Option.isSome_iff_exists.mp (Option.isNone_eq_false_iff.mp hfresh)
      obtain ⟨f, v, b, t, -, hb, hexec, hadded⟩ := lzwKwkwkCode s prev hi hp hprev'
      have hlen : (f :: v ++ [f]).length = v.length + 2 := by simp
      rw [h]
      rw [← hlen] at hadded
      exact ⟨t, hexec, LzwStep.of_added hi hp hbits ⟨Nat.le_refl _, by omega, by omega⟩ (by simp) hb hadded⟩
    · omega

end Sys2Proof.Machine
end

section
/-!
PROOF, sixth part of O52, O53, O58 and O59: the steps of the encoder, and what each leaves of a legal state.
-/
namespace Sys2Proof.Machine

variable {s t u : State}

/-! ## The steps of the encoder -/

/-- The steps of the encoder inside its rows (45_fax_encoder.md R275 to R282): a mode chosen at a mode position, or a
run word of a horizontal mode, whose last run ends the mode. -/
inductive EncodeStep (s : State) : State → Prop
  | pass (hp : s.phase = .encodeMode) (hb2 : s.b2 < s.encoderA1 s.sourceRow) :
    EncodeStep s { s with encBits := s.encBits ++ encode 0 .p, a0 := (s.b2 : Int) }
  | vertical {i : Instr} {d : Int} {t : State} (hp : s.phase = .encodeMode) (hb2 : ¬s.b2 < s.encoderA1 s.sourceRow)
    (hmem : (i, d) ∈ verticalModes) (hd : (s.encoderA1 s.sourceRow : Int) - (s.b1 : Int) = d)
    (hdone : EncoderModeDone
      { s with
        encBits := s.encBits ++ encode 0 i
        a0 := (s.encoderA1 s.sourceRow : Int)
        color := flipColor s.color } t) : EncodeStep s t
  | horizontal (hp : s.phase = .encodeMode) (hb2 : ¬s.b2 < s.encoderA1 s.sourceRow) :
    EncodeStep s { s with
      encBits := s.encBits ++ encode 0 .h
      phase := .encodeRun1 (s.encoderA1 s.sourceRow - s.a0p) (s.encoderA1 s.sourceRow) (s.encoderA2 s.sourceRow) }
  | makeup1 {left a1 a2 : Nat} {e : RunEntry} (hp : s.phase = .encodeRun1 left a1 a2)
    (he : (encoderRunWord s.color left).runEntry = some e) (hterm : e.terminating = false) :
    EncodeStep s { s with
      encBits := s.encBits ++ encode 0 (encoderRunWord s.color left)
      phase := .encodeRun1 (left - e.run) a1 a2 }
  | terminating1 {left a1 a2 : Nat} {e : RunEntry} (hp : s.phase = .encodeRun1 left a1 a2)
    (he : (encoderRunWord s.color left).runEntry = some e) (hterm : e.terminating = true) :
    EncodeStep s { s with
      encBits := s.encBits ++ encode 0 (encoderRunWord s.color left)
      phase := .encodeRun2 (a2 - a1) a2 }
  | makeup2 {left a2 : Nat} {e : RunEntry} (hp : s.phase = .encodeRun2 left a2)
    (he : (encoderRunWord (flipColor s.color) left).runEntry = some e) (hterm : e.terminating = false) :
    EncodeStep s { s with
      encBits := s.encBits ++ encode 0 (encoderRunWord (flipColor s.color) left)
      phase := .encodeRun2 (left - e.run) a2 }
  | terminating2 {left a2 : Nat} {e : RunEntry} {t : State} (hp : s.phase = .encodeRun2 left a2)
    (he : (encoderRunWord (flipColor s.color) left).runEntry = some e) (hterm : e.terminating = true)
    (hdone : EncoderModeDone
      { s with
        encBits := s.encBits ++ encode 0 (encoderRunWord (flipColor s.color) left)
        a0 := (a2 : Int) } t) : EncodeStep s t

theorem exists_verticalMode {d : Int} (h : -3 ≤ d ∧ d ≤ 3) : ∃ i, (i, d) ∈ verticalModes := by
  obtain ⟨hge, hle⟩ := h
  interval_cases d <;> simp [verticalModes]

/-- A step at a mode position of the encoder (45_fax_encoder.md R275). -/
theorem EncodeStep.exists_of_encodeMode (hi : s.Inv) (hp : s.phase = .encodeMode) :
    ∃ t, step s = .next t ∧ EncodeStep s t := by
  obtain ⟨hpass, hvertical, hhorizontal⟩ := encoderEmitsModeWords s hi hp
  by_cases hb2 : s.b2 < s.encoderA1 s.sourceRow
  · obtain ⟨hfetch, hexec⟩ := hpass hb2
    exact ⟨_, (step_word hfetch).trans hexec, .pass hp hb2⟩
  · by_cases hd : -3 ≤ (s.encoderA1 s.sourceRow : Int) - (s.b1 : Int) ∧
        (s.encoderA1 s.sourceRow : Int) - (s.b1 : Int) ≤ 3
    · obtain ⟨i, hmem⟩ := exists_verticalMode hd
      obtain ⟨hfetch, t, hexec, hdone⟩ := hvertical i _ hb2 hmem rfl
      exact ⟨t, (step_word hfetch).trans hexec, .vertical hp hb2 hmem rfl hdone⟩
    · obtain ⟨hfetch, hexec⟩ := hhorizontal hb2 (by omega)
      exact ⟨_, (step_word hfetch).trans hexec, .horizontal hp hb2⟩

/-- A step in a run of the encoder (45_fax_encoder.md R278, R281). -/
theorem EncodeStep.exists_of_encodeRun1 {left a1 a2 : Nat} (hi : s.Inv) (hp : s.phase = .encodeRun1 left a1 a2) :
    ∃ t, step s = .next t ∧ EncodeStep s t := by
  obtain ⟨e, he, -⟩ := runDecomposition s.color left
  obtain ⟨hfetch, hmakeup, hterm⟩ := (encoderEmitsRunWords s _ e hi he).1 left a1 a2 hp rfl
  rw [step_word hfetch]
  cases hte : e.terminating with
  | false => exact ⟨_, hmakeup hte, .makeup1 hp he hte⟩
  | true => exact ⟨_, hterm hte, .terminating1 hp he hte⟩

theorem EncodeStep.exists_of_encodeRun2 {left a2 : Nat} (hi : s.Inv) (hp : s.phase = .encodeRun2 left a2) :
    ∃ t, step s = .next t ∧ EncodeStep s t := by
  obtain ⟨e, he, -⟩ := runDecomposition (flipColor s.color) left
  obtain ⟨hfetch, hmakeup, hterm⟩ := (encoderEmitsRunWords s _ e hi he).2 left a2 hp rfl
  rw [step_word hfetch]
  cases hte : e.terminating with
  | false => exact ⟨_, hmakeup hte, .makeup2 hp he hte⟩
  | true =>
    obtain ⟨t, hexec, hdone⟩ := hterm hte
    exact ⟨t, hexec, .terminating2 hp he hte hdone⟩

/-- Is this a position of the encoder inside a row? -/
def Phase.inEncodeRow : Phase → Bool
  | .encodeMode => true
  | .encodeRun1 _ _ _ => true
  | .encodeRun2 _ _ => true
  | _ => false

theorem EncodeStep.exists_of_inEncodeRow (hi : s.Inv) (hp : s.phase.inEncodeRow = true) :
    ∃ t, step s = .next t ∧ EncodeStep s t := by
  cases h : s.phase with
  | encodeMode => exact EncodeStep.exists_of_encodeMode hi h
  | encodeRun1 left a1 a2 => exact EncodeStep.exists_of_encodeRun1 hi h
  | encodeRun2 left a2 => exact EncodeStep.exists_of_encodeRun2 hi h
  | idle | lineStart | tagBit | run | modeWord | uncompressed | lzw | encodeEnd => simp [h, Phase.inEncodeRow] at hp

/-! ## Positions in a row of the encoder -/

theorem State.phaseLegal_encodeMode (hp : s.phase = .encodeMode) :
    s.phaseLegal = true ↔ s.encodingRow = true ∧ s.a0Inside = true := by
  simp [State.phaseLegal, hp]

theorem State.phaseLegal_encodeRun1 {left a1 a2 : Nat} (hp : s.phase = .encodeRun1 left a1 a2) :
    s.phaseLegal = true ↔ s.encodingRow = true ∧ s.a0Inside = true ∧ s.a0 < (a1 : Int) ∧ left ≤ a1 ∧ a1 ≤ a2 ∧
      a2 ≤ s.cfg.width := by
  simp [State.phaseLegal, hp, and_assoc]

theorem State.phaseLegal_encodeRun2 {left a2 : Nat} (hp : s.phase = .encodeRun2 left a2) :
    s.phaseLegal = true ↔ s.encodingRow = true ∧ s.a0Inside = true ∧ s.a0 < (a2 : Int) ∧ left ≤ a2 ∧
      a2 ≤ s.cfg.width := by
  simp [State.phaseLegal, hp, and_assoc]

theorem State.phaseLegal_encodeEnd (hp : s.phase = .encodeEnd) :
    s.phaseLegal = true ↔ s.cfg.valid s.limits = true ∧ s.cfg.op = .encodeG4 := by
  simp [State.phaseLegal, hp]

/-- Where the encoder stands in a row. -/
theorem State.inv_inEncodeRow (hi : s.Inv) (hp : s.phase.inEncodeRow = true) :
    s.encodingRow = true ∧ -1 ≤ s.a0 ∧ s.a0 < (s.cfg.width : Int) := by
  cases h : s.phase with
  | encodeMode =>
    obtain ⟨hrow, hinside⟩ := (State.phaseLegal_encodeMode h).mp hi.phaseLegal
    exact ⟨hrow, State.a0Inside_iff.mp hinside⟩
  | encodeRun1 left a1 a2 =>
    obtain ⟨hrow, hinside, -⟩ := (State.phaseLegal_encodeRun1 h).mp hi.phaseLegal
    exact ⟨hrow, State.a0Inside_iff.mp hinside⟩
  | encodeRun2 left a2 =>
    obtain ⟨hrow, hinside, -⟩ := (State.phaseLegal_encodeRun2 h).mp hi.phaseLegal
    exact ⟨hrow, State.a0Inside_iff.mp hinside⟩
  | idle | lineStart | tagBit | run | modeWord | uncompressed | lzw | encodeEnd => simp [h, Phase.inEncodeRow] at hp

theorem nextElement_gt {r : Row} {x : Int} {w : Nat} (hx : x < (w : Int)) : x < (nextElement (trans r) x w : Int) := by
  rcases nextElement_spec (trans_pairwise_lt r) x w with ⟨-, hlt, -⟩ | ⟨heq, -⟩
  · exact hlt
  · rwa [heq]

theorem nextElement_le {r : Row} {x : Int} {w : Nat} (hr : r.length = w) : nextElement (trans r) x w ≤ w := by
  rcases nextElement_spec (trans_pairwise_lt r) x w with ⟨hmem, -, -⟩ | ⟨heq, -⟩
  · exact hr ▸ (lt_length_of_mem_trans hmem).le
  · exact heq.le

theorem State.a0_lt_encoderA1 {r : Row} (h : s.a0 < (s.cfg.width : Int)) : s.a0 < (s.encoderA1 r : Int) :=
  nextElement_gt h

theorem State.encoderA2_le_width (s : State) : s.encoderA2 s.sourceRow ≤ s.cfg.width :=
  nextElement_le s.length_sourceRow

theorem State.encoderA1_le_encoderA2 (s : State) : s.encoderA1 s.sourceRow ≤ s.encoderA2 s.sourceRow := by
  have hle := s.encoderA1_le_width
  rcases Nat.lt_or_eq_of_le hle with hlt | heq
  · have hgt := nextElement_gt (r := s.sourceRow) (x := s.encoderA1 s.sourceRow) (w := s.cfg.width) (by omega)
    exact (Int.ofNat_lt.mp hgt).le
  · rcases nextElement_spec (trans_pairwise_lt s.sourceRow) (s.encoderA1 s.sourceRow) s.cfg.width with
      ⟨-, hlt, -⟩ | ⟨hw, -⟩
    · exact (Int.ofNat_lt.mp hlt).le
    · exact heq.le.trans hw.ge

/-- A makeup word leaves less of the run, a terminating word nothing (45_fax_encoder.md R281). -/
theorem encoderRunWord_entry {c : Color} {left : Nat} {e : RunEntry} (h : (encoderRunWord c left).runEntry = some e) :
    runSpaceHas e.space c = true ∧ e.run ≤ left ∧ (e.terminating = false → 0 < e.run) ∧
      (e.terminating = true → e.run = left) := by
  obtain ⟨e', he', hs, hlong, hmakeup, hterm⟩ := runDecomposition c left
  obtain rfl := Option.some_inj.mp (h.symm.trans he')
  refine ⟨hs, ?_⟩
  rcases Nat.lt_or_ge left 64 with hlt | hge
  · obtain ⟨hrun, ht, -⟩ := hterm hlt
    exact ⟨hrun.le, fun hf => Bool.noConfusion (hf.symm.trans ht), fun _ => hrun⟩
  · rcases Nat.lt_or_ge left 2624 with hlt | hge'
    · obtain ⟨hrun, hf, -⟩ := hmakeup hge hlt
      exact ⟨by omega, fun _ => by omega, fun ht => Bool.noConfusion (ht.symm.trans hf)⟩
    · obtain ⟨-, hrun, hf⟩ := hlong hge'
      exact ⟨by omega, fun _ => by omega, fun ht => Bool.noConfusion (ht.symm.trans hf)⟩

/-! ## The encoder keeps the invariant -/

/-- A state of the encoder that differs in the registers of the image and in what is emitted. -/
theorem State.inv_encoder (hi : s.Inv) (hp : s.phase.inEncodeRow = true) (hjob : t.jobPart = s.jobPart)
    (hout : t.out = s.out) (hrange : t.ImageRange) (hphase : t.phaseLegal = true) : t.Inv := by
  obtain ⟨hbuf, -⟩ := State.inv_iff.mp hi
  obtain ⟨-, hwf, -⟩ := State.buffersWf_iff.mp hbuf
  refine State.inv_of_jobPart hi hjob (hout ▸ hwf) hrange (fun a _ => ?_) hphase
  rw [hout]
  apply hi.restClear
  cases h : s.phase with
  | encodeMode | encodeRun1 | encodeRun2 => rw [State.unwrittenFrom, h]; exact Nat.zero_le a
  | idle | lineStart | tagBit | run | modeWord | uncompressed | lzw | encodeEnd => simp [h, Phase.inEncodeRow] at hp

theorem State.encodingRow_of_jobPart (hjob : t.jobPart = s.jobPart) (hrow : t.row = s.row)
    (h : s.encodingRow = true) : t.encodingRow = true := by
  rw [State.encodingRow, State.cfg_of_jobPart hjob, State.limits_of_jobPart hjob, hrow]
  exact h

/-- The end of a mode: the row goes on, the next row begins, or the end of block follows (R272, R279). -/
theorem State.inv_encoderModeDone (hi : s.Inv) (hp : s.phase.inEncodeRow = true) (hjob : u.jobPart = s.jobPart)
    (hout : u.out = s.out) (hrow : u.row = s.row) (hrange : u.ImageRange) (h : EncoderModeDone u t) : t.Inv := by
  obtain ⟨henc, -⟩ := State.inv_inEncodeRow hi hp
  have henc' := State.encodingRow_of_jobPart hjob hrow henc
  obtain ⟨hvalid, hop, -⟩ := State.encodingRow_iff.mp henc'
  have hsource := u.length_sourceRow
  rcases h with ⟨ha, rfl⟩ | ⟨-, hnext, rfl⟩ | ⟨-, -, rfl⟩
  · exact State.inv_encoder hi hp hjob hout
      ⟨hrange.a0_ge, hrange.a0_le, hrange.pos_le, hrange.row_le, hrange.failures_le, hrange.ref_length⟩
      ((State.phaseLegal_encodeMode rfl).mpr ⟨henc', State.a0Inside_iff.mpr ⟨hrange.a0_ge, ha⟩⟩)
  · exact State.inv_encoder hi hp hjob hout
      ⟨by simp, by simp, Nat.zero_le _, hnext.le, hrange.failures_le, hsource⟩
      ((State.phaseLegal_encodeMode rfl).mpr ⟨State.encodingRow_iff.mpr ⟨hvalid, hop, hnext⟩,
        State.a0Inside_iff.mpr ⟨by simp, by simp only; omega⟩⟩)
  · exact State.inv_encoder hi hp hjob hout
      ⟨hrange.a0_ge, hrange.a0_le, hrange.pos_le, hrange.row_le, hrange.failures_le, hsource⟩
      ((State.phaseLegal_encodeEnd rfl).mpr ⟨hvalid, hop⟩)

theorem EncodeStep.inv (hi : s.Inv) (hp : s.phase.inEncodeRow = true) (h : EncodeStep s t) : t.Inv := by
  obtain ⟨henc, ha0, ha0'⟩ := State.inv_inEncodeRow hi hp
  have hr := State.imageRange_of_inv hi
  cases h with
  | pass hph hb2 =>
    have hle := s.encoderA1_le_width
    exact State.inv_encoder hi hp rfl rfl
      ⟨by simp only; omega, by simp only; omega, hr.pos_le, hr.row_le, hr.failures_le, hr.ref_length⟩
      ((State.phaseLegal_encodeMode (s := { s with encBits := s.encBits ++ encode 0 .p, a0 := (s.b2 : Int) }) hph).mpr
        ⟨henc, State.a0Inside_iff.mpr ⟨by simp only; omega, by simp only; omega⟩⟩)
  | vertical hph hb2 hmem hd hdone =>
    have hle := s.encoderA1_le_width
    exact State.inv_encoderModeDone hi hp (u := { s with
        encBits := s.encBits ++ encode 0 _
        a0 := (s.encoderA1 s.sourceRow : Int)
        color := flipColor s.color }) rfl rfl rfl
      ⟨by simp only; omega, by simp only; omega, hr.pos_le, hr.row_le, hr.failures_le, hr.ref_length⟩ hdone
  | horizontal hph hb2 =>
    have hlt := State.a0_lt_encoderA1 (r := s.sourceRow) ha0'
    exact State.inv_encoder hi hp rfl rfl
      ⟨ha0, ha0'.le, hr.pos_le, hr.row_le, hr.failures_le, hr.ref_length⟩
      ((State.phaseLegal_encodeRun1 rfl).mpr ⟨henc, State.a0Inside_iff.mpr ⟨ha0, ha0'⟩, hlt, Nat.sub_le _ _,
        s.encoderA1_le_encoderA2, s.encoderA2_le_width⟩)
  | makeup1 hph he hterm =>
    obtain ⟨-, hinside, hlt, hleft, h12, h2w⟩ := (State.phaseLegal_encodeRun1 hph).mp hi.phaseLegal
    exact State.inv_encoder hi hp rfl rfl
      ⟨ha0, ha0'.le, hr.pos_le, hr.row_le, hr.failures_le, hr.ref_length⟩
      ((State.phaseLegal_encodeRun1 rfl).mpr ⟨henc, hinside, hlt, (Nat.sub_le _ _).trans hleft, h12, h2w⟩)
  | terminating1 hph he hterm =>
    obtain ⟨-, hinside, hlt, hleft, h12, h2w⟩ := (State.phaseLegal_encodeRun1 hph).mp hi.phaseLegal
    exact State.inv_encoder hi hp rfl rfl
      ⟨ha0, ha0'.le, hr.pos_le, hr.row_le, hr.failures_le, hr.ref_length⟩
      ((State.phaseLegal_encodeRun2 rfl).mpr ⟨henc, hinside, by simp only; omega, Nat.sub_le _ _, h2w⟩)
  | makeup2 hph he hterm =>
    obtain ⟨-, hinside, hlt, hleft, h2w⟩ := (State.phaseLegal_encodeRun2 hph).mp hi.phaseLegal
    exact State.inv_encoder hi hp rfl rfl
      ⟨ha0, ha0'.le, hr.pos_le, hr.row_le, hr.failures_le, hr.ref_length⟩
      ((State.phaseLegal_encodeRun2 rfl).mpr ⟨henc, hinside, hlt, (Nat.sub_le _ _).trans hleft, h2w⟩)
  | terminating2 hph he hterm hdone =>
    obtain ⟨-, -, hlt, -, h2w⟩ := (State.phaseLegal_encodeRun2 hph).mp hi.phaseLegal
    exact State.inv_encoderModeDone hi hp (u := { s with
        encBits := s.encBits ++ encode 0 _
        a0 := (_ : Int) }) rfl rfl rfl
      ⟨by simp only; omega, by simp only; omega, hr.pos_le, hr.row_le, hr.failures_le, hr.ref_length⟩ hdone

theorem EncoderModeDone.cur_eq (h : EncoderModeDone u t) : t.cur = u.cur := by
  rcases h with ⟨-, rfl⟩ | ⟨-, -, rfl⟩ | ⟨-, -, rfl⟩ <;> rfl

/-- The encoder reads no bits. -/
theorem EncodeStep.cur_eq (h : EncodeStep s t) : t.cur = s.cur := by
  cases h with
  | pass | horizontal | makeup1 | terminating1 | makeup2 => rfl
  | vertical hph hb2 hmem hd hdone => exact hdone.cur_eq
  | terminating2 hph he hterm hdone => exact hdone.cur_eq

end Sys2Proof.Machine
end

section
/-!
PROOF of O52, O53 and O58: a job taken from the port begins in a legal state, the end of block leaves one, and with the
steps of the fax line decoders, of the LZW loop and of the encoder these are all steps of the machine.
-/
namespace Sys2Proof.Machine

variable {s t u : State} {c : JobConfig}

/-! ## The beginning of a job -/

/-- The registers that no beginning changes. -/
def State.startPart (s : State) :
    Option JobConfig × Option JobResult × JobConfig × Nat × Nat × Int × Nat × Nat × Nat :=
  (s.request, s.result, s.cfg, s.fill, s.row, s.a0, s.pos, s.failures, s.lzwOut)

theorem State.inRange_started (hpart : u.startPart = (s.jobStart c).startPart) (href : u.ref.length = c.width) :
    u.inRange = true := by
  simp only [State.startPart, Prod.mk.injEq] at hpart
  obtain ⟨-, -, hcfg, hfill, hrow, ha0, hpos, hfail, hlzwOut⟩ := hpart
  rw [State.inRange_iff, hfill, hrow, ha0, hpos, hfail, hlzwOut, hcfg, href]
  obtain ⟨h1, -, h3, h4, h5, h6, h7, h8, -, -, -, -, -, -, h15, -⟩ := jobStartValues s c
  rw [h1, h3, h4, h5, h7, h8, h15]
  exact ⟨by omega, by omega, Nat.zero_le _, Nat.zero_le _, Nat.zero_le _, rfl, rfl, Nat.zero_le _⟩

/-- A job that has begun, with nothing in its output buffer, is in a legal state. -/
theorem State.inv_started (hin : c.input.wf = true) (hpart : u.startPart = (s.jobStart c).startPart)
    (href : u.ref.length = c.width) (htable : u.lzwLegal = true) (hout : u.out.cells = [])
    (hphase : u.phaseLegal = true) : u.Inv := by
  have hrange := State.inRange_started hpart href
  simp only [State.startPart, Prod.mk.injEq] at hpart
  obtain ⟨hreq, hres, hcfg, -⟩ := hpart
  refine State.inv_iff.mpr ⟨State.buffersWf_iff.mpr ⟨?_, ?_, ?_, ?_⟩, htable, hrange, ?_, hphase⟩
  · rwa [hcfg]
  · rw [Buffer.wf, hout]
    rfl
  · rw [hreq]
    nofun
  · rw [hres]
    nofun
  · rw [State.restUnlisted, hout]
    rfl

/-- A job that ends where it begins leaves a legal state. -/
theorem State.inv_finish_started {r : JobResult} (hin : c.input.wf = true)
    (hpart : u.startPart = (s.jobStart c).startPart) (href : u.ref.length = c.width) (htable : u.lzwLegal = true)
    (hr : ∀ b, r.out = some b → b.wf = true) : (u.finish r).Inv := by
  have hrange := State.inRange_started hpart href
  simp only [State.startPart, Prod.mk.injEq] at hpart
  obtain ⟨hreq, -, hcfg, -⟩ := hpart
  refine State.inv_finish ?_ ?_ htable hrange hr
  · rwa [hcfg]
  · rw [hreq]
    nofun

theorem State.lzwLegal_jobStart (s : State) (c : JobConfig) : (s.jobStart c).lzwLegal = true :=
  State.lzwLegal_initTable _

theorem State.length_ref_jobStart (s : State) (c : JobConfig) : (s.jobStart c).ref.length = c.width := by
  obtain ⟨-, -, -, -, -, -, -, -, href, -⟩ := jobStartValues s c
  rw [href, List.length_replicate]

/-- The first row of an accepted fax decode job. -/
theorem State.decodingRow_jobStart (hvalid : c.valid s.limits = true) (hfax : isFaxDecode c.op = true)
    (hh : 0 < c.height) : (s.jobStart c).decodingRow = true := by
  have hout : (s.jobStart c).out = Buffer.zeros (c.stride * c.height) := State.jobStart_out (isFaxDecode_ne hfax).1
  refine State.decodingRow_iff.mpr ⟨hvalid, hfax, hh, by rw [hout]; rfl, Nat.le_refl _, ?_⟩
  by_cases hop : c.op = .decodeG4
  · exact .inr ⟨(s.jobStart_refValid_iff c).mpr hop, rfl⟩
  · exact .inl hop

theorem State.out_jobStart (s : State) (c : JobConfig) : (s.jobStart c).out.cells = [] := by
  by_cases hop : c.op = .encodeG4
  · exact congrArg Buffer.cells (if_pos hop)
  · exact congrArg Buffer.cells (State.jobStart_out hop)

theorem State.out_wf_jobStart (s : State) (c : JobConfig) : (s.jobStart c).out.wf = true := by
  rw [Buffer.wf, s.out_jobStart c]
  rfl

theorem State.inv_beginG3 (hin : c.input.wf = true) (hvalid : c.valid s.limits = true)
    (hop : isFaxDecode c.op = true ∧ c.op ≠ .decodeG4) : (s.jobStart c).beginG3.Inv := by
  rcases Nat.eq_zero_or_pos c.height with hh | hh
  · rw [show (s.jobStart c).beginG3 = (s.jobStart c).finish (s.jobStart c).okResult from if_pos hh]
    refine State.inv_finish_started (s := s) hin rfl (s.length_ref_jobStart c) (s.lzwLegal_jobStart c) fun b hb => ?_
    exact Option.some_inj.mp hb ▸ s.out_wf_jobStart c
  · rw [State.beginG3_of_rows (s := s.jobStart c) hh]
    exact State.inv_started (s := s) hin rfl (s.length_ref_jobStart c) (s.lzwLegal_jobStart c) (s.out_jobStart c)
      ((State.phaseLegal_lineStart rfl).mpr ⟨State.decodingRow_jobStart hvalid hop.1 hh, hop.2⟩)

theorem State.beginG4_of_no_row (h : s.cfg.height = 0) :
    s.beginG4 = State.finish { s with ref := s.cfg.refIn.getD s.ref }
      (State.okResult { s with ref := s.cfg.refIn.getD s.ref }) := if_pos h

theorem State.inv_beginG4 (hin : c.input.wf = true) (hvalid : c.valid s.limits = true) (hop : c.op = .decodeG4) :
    (s.jobStart c).beginG4.Inv := by
  have href : (c.refIn.getD (s.jobStart c).ref).length = c.width := by
    obtain ⟨-, -, -, -, hlen, -⟩ := JobConfig.valid_iff.mp hvalid
    cases hin : c.refIn with
    | none => exact s.length_ref_jobStart c
    | some r => exact hlen hop r hin
  rcases Nat.eq_zero_or_pos c.height with hh | hh
  · rw [State.beginG4_of_no_row (s := s.jobStart c) hh]
    refine State.inv_finish_started (s := s) hin rfl href (s.lzwLegal_jobStart c) fun b hb => ?_
    exact Option.some_inj.mp hb ▸ s.out_wf_jobStart c
  · rw [State.beginG4_of_rows (s := s.jobStart c) hh]
    refine State.inv_started (s := s) hin rfl href (s.lzwLegal_jobStart c) (s.out_jobStart c) ?_
    have hw := JobConfig.width_pos hvalid
    have hdec := State.decodingRow_jobStart (s := s) hvalid (by rw [hop]; rfl) hh
    refine (State.phaseLegal_modeWord rfl).mpr ⟨hdec, fun hop' => Op.noConfusion (hop.symm.trans hop'),
      State.a0Inside_iff.mpr ⟨by simp, ?_⟩⟩
    simp only [State.start2D_a0, State.start2D_cfg]
    omega

theorem State.inv_beginLzw (hin : c.input.wf = true) (hvalid : c.valid s.limits = true) (hop : c.op = .decodeLzw) :
    (s.jobStart c).beginLzw.Inv := by
  refine State.inv_started (s := s) hin rfl (s.length_ref_jobStart c) (s.lzwLegal_jobStart c) (s.out_jobStart c) ?_
  have hout : (s.jobStart c).out = Buffer.zeros (c.stride * c.height) := State.jobStart_out (by rw [hop]; nofun)
  have hsize : (s.jobStart c).out.size = c.stride * c.height := by rw [hout]; rfl
  simp only [State.phaseLegal, State.beginLzw, Bool.and_eq_true]
  exact ⟨⟨hvalid, decide_eq_true hop⟩, decide_eq_true hsize⟩

theorem State.inv_copyNone (hin : c.input.wf = true) (hop : c.op = .copyNone) : (s.jobStart c).copyNone.Inv := by
  rw [State.copyNone_of_zeros (State.jobStart_out (by rw [hop]; nofun))]
  refine State.inv_finish_started (s := s) hin rfl (s.length_ref_jobStart c) (s.lzwLegal_jobStart c) fun b hb => ?_
  exact Option.some_inj.mp hb ▸ Buffer.copied_wf _ _

theorem State.inv_beginEncode (hin : c.input.wf = true) (hvalid : c.valid s.limits = true) (hop : c.op = .encodeG4) :
    (s.jobStart c).beginEncode.Inv := by
  rcases Nat.eq_zero_or_pos c.height with hh | hh
  · rw [State.beginEncode_of_no_row (s := s.jobStart c) hh]
    exact State.inv_started (s := s) hin rfl (s.length_ref_jobStart c) (s.lzwLegal_jobStart c) (s.out_jobStart c)
      ((State.phaseLegal_encodeEnd rfl).mpr ⟨hvalid, hop⟩)
  · rw [State.beginEncode_of_rows (s := s.jobStart c) hh]
    have hw := JobConfig.width_pos hvalid
    refine State.inv_started (s := s) hin rfl (s.length_ref_jobStart c) (s.lzwLegal_jobStart c) (s.out_jobStart c) ?_
    refine (State.phaseLegal_encodeMode rfl).mpr ⟨State.encodingRow_iff.mpr ⟨hvalid, hop, hh⟩,
      State.a0Inside_iff.mpr ⟨by simp, ?_⟩⟩
    simp only [State.startEncodeRow_a0, State.startEncodeRow_cfg]
    omega

/-- Every accepted job begins in a legal state (47_job_dispatch.md R340, R341). -/
theorem State.inv_begin (hin : c.input.wf = true) (hvalid : c.valid s.limits = true) :
    (Op.begin c.op (s.jobStart c)).Inv := by
  cases hop : c.op with
  | decodeG31D | decodeG32D => exact State.inv_beginG3 hin hvalid (by rw [hop]; exact ⟨rfl, nofun⟩)
  | decodeG4 => exact State.inv_beginG4 hin hvalid hop
  | decodeLzw => exact State.inv_beginLzw hin hvalid hop
  | copyNone => exact State.inv_copyNone hin hop
  | encodeG4 => exact State.inv_beginEncode hin hvalid hop

/-! ## The steps outside a row -/

/-- A step of an idle engine: it waits, refuses the job, or begins it. -/
theorem exists_step_of_idle (hi : s.Inv) (hp : s.phase = .idle) : ∃ t, step s = .next t ∧ t.Inv := by
  cases hr : s.request with
  | none => exact ⟨s, step_waiting hp hr, hi⟩
  | some c =>
    obtain ⟨hbuf, htable, hrange, hrest, -⟩ := State.inv_iff.mp hi
    obtain ⟨hin, hout, hreq, -⟩ := State.buffersWf_iff.mp hbuf
    rw [step_word (State.fetch_idle_of_request hp hr)]
    cases hvalid : c.valid s.limits with
    | true => exact ⟨_, exec_instr_accepted hp hr hvalid, State.inv_begin (hreq c hr) hvalid⟩
    | false =>
      refine ⟨_, exec_instr_refused hp hr hvalid, State.inv_iff.mpr
        ⟨State.buffersWf_iff.mpr ⟨hin, hout, nofun, ?_⟩, htable, hrange, hrest, ?_⟩⟩
      · rintro r b hres hb
        obtain rfl := Option.some_inj.mp hres
        cases hb
      · simp only [State.phaseLegal, hp]

/-- The end of block (45_fax_encoder.md R284). -/
theorem step_of_encodeEnd (hp : s.phase = .encodeEnd) :
    step s = .next ((s.emit (encode 0 .eofb)).finish (encodeResult (pack (s.encBits ++ encode 0 .eofb)))) :=
  (step_word (State.fetch_encodeEnd hp)).trans (exec_eofb_encodeEnd hp)

theorem exists_step_of_encodeEnd (hi : s.Inv) (hp : s.phase = .encodeEnd) : ∃ t, step s = .next t ∧ t.Inv := by
  have hr := State.imageRange_of_inv hi
  refine ⟨_, step_of_encodeEnd hp, State.inv_finish_of_jobPart hi rfl ?_ nofun⟩
  exact ⟨hr.a0_ge, hr.a0_le, hr.pos_le, hr.row_le, hr.failures_le, hr.ref_length⟩

/-! ## Every step -/

/-- Every step from a legal state gives a legal state: by the position in the pseudocode. -/
theorem exists_step (hi : s.Inv) : ∃ t, step s = .next t ∧ t.Inv := by
  cases h : s.phase with
  | idle => exact exists_step_of_idle hi h
  | lineStart | tagBit | run | modeWord | uncompressed =>
    obtain ⟨t, ht, hstep⟩ := FaxStep.exists_of_inFaxRow hi (by rw [h]; rfl)
    exact ⟨t, ht, hstep.inv⟩
  | lzw =>
    obtain ⟨t, ht, hstep⟩ := LzwStep.exists_of_lzw hi h
    exact ⟨t, ht, hstep.inv⟩
  | encodeMode | encodeRun1 | encodeRun2 =>
    have hrow : s.phase.inEncodeRow = true := by rw [h]; rfl
    obtain ⟨t, ht, hstep⟩ := EncodeStep.exists_of_inEncodeRow hi hrow
    exact ⟨t, ht, hstep.inv hi hrow⟩
  | encodeEnd => exact exists_step_of_encodeEnd hi h

/-- Settles O53: the steps of every position, none of which stops. -/
theorem everyStepCompletes : Obligations.EveryStepCompletes := fun _ hi => by
  obtain ⟨t, ht, -⟩ := exists_step hi
  exact ⟨t, ht⟩

/-- Settles O52: the same steps keep the invariant, which says that nothing is listed where nothing was written. -/
theorem legalStatesStayLegal : Obligations.LegalStatesStayLegal := fun s t hi h => by
  obtain ⟨u, hu, hinv⟩ := exists_step hi
  obtain rfl := Host.Outcome.next.inj (hu.symm.trans h)
  exact ⟨hinv, hinv.restClear⟩

/-- The cursor of a running job never moves back. -/
theorem cur_le_of_step (hi : s.Inv) (hrun : s.phase ≠ .idle) (h : step s = .next t) (ht : t.phase ≠ .idle) :
    s.cur ≤ t.cur := by
  cases hp : s.phase with
  | idle => exact absurd hp hrun
  | lineStart | tagBit | run | modeWord | uncompressed =>
    exact ((FaxStep.of_step hi (by rw [hp]; rfl) h).cur_lt ht).le
  | lzw =>
    obtain ⟨u, hu, hstep⟩ := LzwStep.exists_of_lzw hi hp
    obtain rfl := Host.Outcome.next.inj (hu.symm.trans h)
    exact (hstep.loops ht).2.1.le
  | encodeMode | encodeRun1 | encodeRun2 =>
    obtain ⟨u, hu, hstep⟩ := EncodeStep.exists_of_inEncodeRow hi (by rw [hp]; rfl)
    obtain rfl := Host.Outcome.next.inj (hu.symm.trans h)
    exact hstep.cur_eq.ge
  | encodeEnd =>
    obtain rfl := Host.Outcome.next.inj ((step_of_encodeEnd hp).symm.trans h)
    exact absurd rfl ht

/-- Settles O58: the bound is kept by every step of a fax decode job. -/
theorem cursorStaysNearTheData : Obligations.CursorStaysNearTheData := fun _ _ hi hrun h ht =>
  ⟨cur_le_of_step hi hrun h ht, fun hfax hnear =>
    (FaxStep.of_step hi (State.inFaxRow_of_running hi hrun hfax) h).cur_near ht hnear⟩

end Sys2Proof.Machine
end

section
/-!
PROOF of O59: every job ends (60_exceptions.md R384). A fax decoder and the LZW reader move the cursor, which is bounded
by the data; the encoder moves `a0` in a row, and from row to row. Along such a measure a running job comes to its end.
-/
namespace Sys2Proof.Machine

variable {s t u : State}

/-! ## Jobs that return -/

/-- Some number of steps leads from `s` to an idle engine with nothing submitted and a result. -/
def JobReturns (s : State) : Prop :=
  ∃ (n : Nat) (t : State), Host.Core.run Sys2Proof.core n s = .next t ∧ t.phase = .idle ∧ t.request = none ∧
    t.result ≠ none

theorem JobReturns.of_step (h : step s = .next t) (ht : JobReturns t) : JobReturns s := by
  obtain ⟨n, u, hrun, hend⟩ := ht
  exact ⟨n + 1, u, (run_of_step h n).trans hrun, hend⟩

/-- A step that ends the job returns its result (47_job_dispatch.md R343). -/
theorem JobReturns.of_last_step (hi : s.Inv) (hjob : s.phase ≠ .idle ∨ s.request ≠ none) (h : step s = .next t)
    (ht : t.phase = .idle) (hreq : t.request = none) : JobReturns s := by
  obtain ⟨r, hr, -⟩ := resultRecordShapes s t hi hjob h ht
  exact .of_step h ⟨0, t, run_zero t, ht, hreq, by rw [hr]; nofun⟩

/-- A running job returns if each of its steps ends it or goes down in a well-founded order. -/
theorem JobReturns.of_wellFounded {P : State → Prop} {r : State → State → Prop} (hr : WellFounded r)
    (hP : ∀ s, P s → s.Inv ∧ s.phase ≠ .idle ∧ s.request = none)
    (hstep : ∀ s, P s → ∃ t, step s = .next t ∧ (t.phase = .idle ∨ (P t ∧ r t s))) (hs : P s) : JobReturns s := by
  induction s using hr.induction with
  | _ s ih =>
    obtain ⟨hi, hrun, hreq⟩ := hP s hs
    obtain ⟨t, ht, hend | ⟨hPt, hlt⟩⟩ := hstep s hs
    · obtain ⟨-, -, -, hrequest, -⟩ := runningJobIsUndisturbed s t hrun ht
      exact .of_last_step hi (.inl hrun) ht hend (hrequest.trans hreq)
    · exact .of_step ht (ih t hlt hPt)

/-! ## Fax decode jobs -/

/-- A fax decode job in progress whose cursor is near the data (10_state.md R21). -/
structure State.FaxRunning (s : State) : Prop where
  inv : s.Inv
  inFaxRow : s.phase.inFaxRow = true
  request_none : s.request = none
  near : s.cursorNear

theorem Phase.ne_idle_of_inFaxRow {p : Phase} (h : p.inFaxRow = true) : p ≠ .idle := by
  rintro rfl
  cases h

theorem State.FaxRunning.exists_step (h : s.FaxRunning) :
    ∃ t, step s = .next t ∧ (t.phase = .idle ∨ (t.FaxRunning ∧ t.inBits + 13 - t.cur < s.inBits + 13 - s.cur)) := by
  obtain ⟨t, ht, hstep⟩ := FaxStep.exists_of_inFaxRow h.inv h.inFaxRow
  refine ⟨t, ht, or_iff_not_imp_left.mpr fun hrun => ?_⟩
  obtain ⟨hcfg, -, -, hrequest, -⟩ :=
    runningJobIsUndisturbed s t (Phase.ne_idle_of_inFaxRow h.inFaxRow) ht
  have hfax := (State.inv_inFaxRow h.inv h.inFaxRow).fax
  have hnear := hstep.cur_near hrun h.near
  refine ⟨⟨hstep.inv, State.inFaxRow_of_running hstep.inv hrun (hcfg ▸ hfax), hrequest.trans h.request_none, hnear⟩, ?_⟩
  have hlt := hstep.cur_lt hrun
  have hle := hnear.1
  have hbits : t.inBits = s.inBits := by rw [State.inBits, hcfg, State.inBits]
  omega

theorem State.FaxRunning.jobReturns (h : s.FaxRunning) : JobReturns s :=
  .of_wellFounded (measure fun s : State => s.inBits + 13 - s.cur).wf
    (fun _ h => ⟨h.inv, Phase.ne_idle_of_inFaxRow h.inFaxRow, h.request_none⟩) (fun _ h => h.exists_step) h

/-! ## The LZW loop -/

theorem JobReturns.of_lzw (hi : s.Inv) (hp : s.phase = .lzw) (hreq : s.request = none) : JobReturns s := by
  refine .of_wellFounded (P := fun s => s.Inv ∧ s.phase = .lzw ∧ s.request = none)
    (measure fun s : State => s.inBits - s.cur).wf (fun s ⟨hi, hp, hreq⟩ => ⟨hi, by rw [hp]; nofun, hreq⟩) ?_
    ⟨hi, hp, hreq⟩
  rintro s ⟨hi, hp, hreq⟩
  obtain ⟨t, ht, hstep⟩ := LzwStep.exists_of_lzw hi hp
  refine ⟨t, ht, or_iff_not_imp_left.mpr fun hrun => ?_⟩
  obtain ⟨hcfg, -, -, hrequest, -⟩ := runningJobIsUndisturbed s t (by rw [hp]; nofun) ht
  obtain ⟨hpt, hlt, hle⟩ := hstep.loops hrun
  refine ⟨⟨hstep.inv, hpt, hrequest.trans hreq⟩, ?_⟩
  have hbits : t.inBits = s.inBits := by rw [State.inBits, hcfg, State.inBits]
  change t.inBits - t.cur < s.inBits - s.cur
  omega

/-! ## The encoder -/

/-- What is left for the encoder: rows, pixels of the row, and words of the mode. -/
def State.encodeLeft (s : State) : Nat × Nat × Nat :=
  (match s.phase with
    | .encodeEnd => 0
    | _ => s.cfg.height - s.row,
  ((s.cfg.width : Int) - s.a0).toNat,
  match s.phase with
    | .encodeMode => 2 * s.cfg.width + 2
    | .encodeRun1 left _ _ => s.cfg.width + 1 + left
    | .encodeRun2 left _ => left
    | _ => 0)

/-- Less is left for the encoder: fewer rows, else fewer pixels, else fewer words. -/
def EncodeLess (t s : State) : Prop :=
  Prod.Lex (· < ·) (Prod.Lex (· < ·) (· < ·)) t.encodeLeft s.encodeLeft

theorem encodeLess_wellFounded : WellFounded EncodeLess :=
  InvImage.wf State.encodeLeft
    (WellFounded.prod_lex Nat.lt_wfRel.wf (WellFounded.prod_lex Nat.lt_wfRel.wf Nat.lt_wfRel.wf))

theorem EncodeLess.of_row (h : t.encodeLeft.1 < s.encodeLeft.1) : EncodeLess t s :=
  Prod.lex_def.mpr (.inl h)

theorem EncodeLess.of_pixel (hrow : t.encodeLeft.1 = s.encodeLeft.1) (h : t.encodeLeft.2.1 < s.encodeLeft.2.1) :
    EncodeLess t s :=
  Prod.lex_def.mpr (.inr ⟨hrow, Prod.lex_def.mpr (.inl h)⟩)

theorem EncodeLess.of_word (hrow : t.encodeLeft.1 = s.encodeLeft.1) (hpixel : t.encodeLeft.2.1 = s.encodeLeft.2.1)
    (h : t.encodeLeft.2.2 < s.encodeLeft.2.2) : EncodeLess t s :=
  Prod.lex_def.mpr (.inr ⟨hrow, Prod.lex_def.mpr (.inr ⟨hpixel, h⟩)⟩)

theorem State.encodeLeft_row (hp : s.phase.inEncodeRow = true) : s.encodeLeft.1 = s.cfg.height - s.row := by
  cases h : s.phase with
  | encodeMode | encodeRun1 | encodeRun2 => simp only [State.encodeLeft, h]
  | idle | lineStart | tagBit | run | modeWord | uncompressed | lzw | encodeEnd => simp [h, Phase.inEncodeRow] at hp

/-- A mode that moved `a0` to the right leaves less. -/
theorem EncoderModeDone.encodeLess (h : EncoderModeDone u t) (hi : s.Inv) (hp : s.phase.inEncodeRow = true)
    (hcfg : u.cfg = s.cfg) (hrow : u.row = s.row) (ha : s.a0 < u.a0) : EncodeLess t s := by
  obtain ⟨henc, -, hw⟩ := State.inv_inEncodeRow hi hp
  obtain ⟨-, -, hlt⟩ := State.encodingRow_iff.mp henc
  have hleft := State.encodeLeft_row hp
  rcases h with ⟨-, rfl⟩ | ⟨-, -, rfl⟩ | ⟨-, -, rfl⟩
  · refine .of_pixel ?_ ?_
    · rw [hleft, ← hcfg, ← hrow]
      rfl
    · simp only [State.encodeLeft, hcfg]
      omega
  · refine .of_row ?_
    rw [hleft]
    simp only [State.encodeLeft, hcfg, hrow]
    omega
  · refine .of_row ?_
    rw [hleft]
    simp only [State.encodeLeft]
    omega

/-- Every step of the encoder inside a row leaves less. -/
theorem EncodeStep.encodeLess (hi : s.Inv) (hp : s.phase.inEncodeRow = true) (h : EncodeStep s t) : EncodeLess t s := by
  obtain ⟨-, -, ha0⟩ := State.inv_inEncodeRow hi hp
  have hr := State.imageRange_of_inv hi
  cases h with
  | pass hph hb2 =>
    have hlt := State.a0_lt_b1 ha0
    have hle := State.b1_le_b2 hr.ref_length
    refine .of_pixel ?_ ?_
    · simp only [State.encodeLeft, hph]
    · simp only [State.encodeLeft]
      omega
  | vertical hph hb2 hmem hd hdone => exact hdone.encodeLess hi hp rfl rfl (State.a0_lt_encoderA1 ha0)
  | horizontal hph hb2 =>
    have hle := s.encoderA1_le_width
    refine .of_word ?_ rfl ?_
    · simp only [State.encodeLeft, hph]
    · simp only [State.encodeLeft, hph]
      omega
  | makeup1 hph he hterm =>
    obtain ⟨-, hle, hpos, -⟩ := encoderRunWord_entry he
    have hpos' := hpos hterm
    refine .of_word ?_ rfl ?_
    · simp only [State.encodeLeft, hph]
    · simp only [State.encodeLeft, hph]
      omega
  | terminating1 hph he hterm =>
    obtain ⟨-, -, -, -, -, h2w⟩ := (State.phaseLegal_encodeRun1 hph).mp hi.phaseLegal
    refine .of_word ?_ rfl ?_
    · simp only [State.encodeLeft, hph]
    · simp only [State.encodeLeft, hph]
      omega
  | makeup2 hph he hterm =>
    obtain ⟨-, hle, hpos, -⟩ := encoderRunWord_entry he
    have hpos' := hpos hterm
    refine .of_word ?_ rfl ?_
    · simp only [State.encodeLeft, hph]
    · simp only [State.encodeLeft, hph]
      omega
  | terminating2 hph he hterm hdone =>
    obtain ⟨-, -, hlt, -, -⟩ := (State.phaseLegal_encodeRun2 hph).mp hi.phaseLegal
    exact hdone.encodeLess hi hp rfl rfl hlt

theorem EncoderModeDone.phase (h : EncoderModeDone u t) : t.phase.inEncodeRow = true ∨ t.phase = .encodeEnd := by
  rcases h with ⟨-, rfl⟩ | ⟨-, -, rfl⟩ | ⟨-, -, rfl⟩
  · exact .inl rfl
  · exact .inl rfl
  · exact .inr rfl

/-- The encoder stays in its rows or comes to the end of block. -/
theorem EncodeStep.phase (h : EncodeStep s t) : t.phase.inEncodeRow = true ∨ t.phase = .encodeEnd := by
  cases h with
  | pass hph => exact .inl (by simp [hph, Phase.inEncodeRow])
  | horizontal | makeup1 | terminating1 | makeup2 => exact .inl rfl
  | vertical hph hb2 hmem hd hdone => exact hdone.phase
  | terminating2 hph he hterm hdone => exact hdone.phase

theorem Phase.ne_idle_of_encodes {p : Phase} (h : p.inEncodeRow = true ∨ p = .encodeEnd) : p ≠ .idle := by
  rintro rfl
  rcases h with h | h <;> cases h

theorem JobReturns.of_encoder (hi : s.Inv) (hp : s.phase.inEncodeRow = true ∨ s.phase = .encodeEnd)
    (hreq : s.request = none) : JobReturns s := by
  refine .of_wellFounded (P := fun s =>
      s.Inv ∧ (s.phase.inEncodeRow = true ∨ s.phase = .encodeEnd) ∧ s.request = none) encodeLess_wellFounded
    (fun s ⟨hi, hp, hreq⟩ => ⟨hi, Phase.ne_idle_of_encodes hp, hreq⟩) ?_ ⟨hi, hp, hreq⟩
  rintro s ⟨hi, hp, hreq⟩
  rcases hp with hrow | hend
  · obtain ⟨t, ht, hstep⟩ := EncodeStep.exists_of_inEncodeRow hi hrow
    obtain ⟨-, -, -, hrequest, -⟩ := runningJobIsUndisturbed s t (Phase.ne_idle_of_encodes (.inl hrow)) ht
    exact ⟨t, ht, .inr ⟨⟨hstep.inv hi hrow, hstep.phase, hrequest.trans hreq⟩, hstep.encodeLess hi hrow⟩⟩
  · exact ⟨_, step_of_encodeEnd hend, .inl rfl⟩

/-! ## Every job -/

/-- A running job returns where its cursor is near the data. -/
theorem JobReturns.of_running (hi : s.Inv) (hrun : s.phase ≠ .idle) (hreq : s.request = none) (hnear : s.cursorNear) :
    JobReturns s := by
  cases hp : s.phase with
  | idle => exact absurd hp hrun
  | lineStart | tagBit | run | modeWord | uncompressed =>
    exact State.FaxRunning.jobReturns ⟨hi, by rw [hp]; rfl, hreq, hnear⟩
  | lzw => exact .of_lzw hi hp hreq
  | encodeMode | encodeRun1 | encodeRun2 => exact .of_encoder hi (.inl (by rw [hp]; rfl)) hreq
  | encodeEnd => exact .of_encoder hi (.inr hp) hreq

/-- No beginning writes the port or the cursor. -/
theorem State.begin_request_cur (op : Op) (u : State) :
    (Op.begin op u).request = u.request ∧ (Op.begin op u).cur = u.cur := by
  cases op with
  | decodeG31D | decodeG32D =>
    simp only [Op.begin, State.beginG3]
    split <;> exact ⟨rfl, rfl⟩
  | decodeG4 =>
    simp only [Op.begin, State.beginG4]
    split <;> exact ⟨rfl, rfl⟩
  | encodeG4 =>
    simp only [Op.begin, State.beginEncode]
    split <;> exact ⟨rfl, rfl⟩
  | decodeLzw | copyNone => exact ⟨rfl, rfl⟩

/-- Settles O59: the job is refused, ends where it begins, or runs to its end. -/
theorem everyJobEnds : Obligations.EveryJobEnds := fun s hi hp hreq => by
  obtain ⟨c, hc⟩ := Option.ne_none_iff_exists'.mp hreq
  have hfetch := State.fetch_idle_of_request hp hc
  change JobReturns s
  cases hvalid : c.valid s.limits with
  | false =>
    exact .of_step ((step_word hfetch).trans (exec_instr_refused hp hc hvalid)) ⟨0, _, run_zero _, hp, rfl, nofun⟩
  | true =>
    have hstep := (step_word hfetch).trans (exec_instr_accepted hp hc hvalid)
    obtain ⟨t, ht, hinv⟩ := exists_step hi
    obtain rfl := Host.Outcome.next.inj (hstep.symm.trans ht)
    obtain ⟨hrequest, hcur⟩ := State.begin_request_cur c.op (s.jobStart c)
    by_cases hend : (Op.begin c.op (s.jobStart c)).phase = .idle
    · exact .of_last_step hi (.inr hreq) hstep hend hrequest
    · refine .of_step hstep (.of_running hinv hend hrequest ?_)
      have hzero : (Op.begin c.op (s.jobStart c)).cur = 0 := hcur
      rw [State.cursorNear, hzero]
      exact ⟨Nat.zero_le _, fun _ => Nat.zero_le _⟩

end Sys2Proof.Machine
end

section
/-!
PROOF, first part of O60: the colours of a row between its changing elements (10_state.md R40), and the bits a decoder
reads from what the encoder has packed (45_fax_encoder.md R285).
-/
namespace Sys2Proof.Machine

/-! ## Colours from a position on -/

/-- The colour of a row at `a`; the position before the row is white (10_state.md R40). -/
def colorFrom (r : Row) (a : Int) : Color := if a < 0 then .white else colorAt r a.toNat

theorem colorFrom_natCast (r : Row) (x : Nat) : colorFrom r (x : Int) = colorAt r x := by
  rw [colorFrom, if_neg (by omega), Int.toNat_natCast]

theorem colorFrom_of_neg {r : Row} {a : Int} (h : a < 0) : colorFrom r a = .white := if_pos h

/-- Up to the next changing element a row keeps its colour. -/
theorem colorAt_of_no_change {r : Row} {a : Int} {x : Nat} (hx : x < r.length) (ha : a ≤ (x : Int))
    (hno : ∀ t ∈ trans r, a < (t : Int) → x < t) : colorAt r x = colorFrom r a := by
  induction x with
  | zero =>
    rcases Int.lt_or_eq_of_le ha with hlt | rfl
    · have hnot : ¬(0 ∈ trans r) := fun hmem => absurd (hno 0 hmem hlt) (Nat.lt_irrefl 0)
      rw [mem_trans, if_pos rfl] at hnot
      have hwhite : r[0]? = some .white := not_not.mp fun hne => hnot ⟨hx, hne⟩
      rw [getElem?_eq_colorAt hx] at hwhite
      rw [colorFrom_of_neg hlt, Option.some_inj.mp hwhite]
    · exact (colorFrom_natCast r 0).symm
  | succ y ih =>
    rcases Int.lt_or_eq_of_le ha with hlt | rfl
    · have hnot : ¬(y + 1 ∈ trans r) := fun hmem => absurd (hno _ hmem hlt) (Nat.lt_irrefl _)
      rw [mem_trans, if_neg (Nat.succ_ne_zero y), Nat.add_sub_cancel] at hnot
      have hsame : r[y + 1]? = r[y]? := not_not.mp fun hne => hnot ⟨hx, hne⟩
      rw [getElem?_eq_colorAt hx, getElem?_eq_colorAt (by omega)] at hsame
      rw [Option.some_inj.mp hsame]
      exact ih (by omega) (by omega) fun t ht hat => Nat.lt_of_succ_lt (hno t ht hat)
    · exact (colorFrom_natCast r _).symm

/-- The pixels before the next changing element have the colour of the position. -/
theorem colorAt_before_next {r : Row} {a : Int} {w x : Nat} (hw : r.length = w) (ha : a ≤ (x : Int))
    (hx : x < nextElement (trans r) a w) : colorAt r x = colorFrom r a := by
  have hle := nextElement_le (x := a) hw
  refine colorAt_of_no_change (by omega) ha fun t ht hat => ?_
  rcases nextElement_spec (trans_pairwise_lt r) a w with ⟨-, -, hfirst⟩ | ⟨-, hnone⟩
  · exact hx.trans_le (hfirst t ht hat)
  · exact absurd (hnone t ht) (by omega)

/-- At the next changing element the colour flips. -/
theorem colorAt_next {r : Row} {a : Int} {w : Nat} (hw : r.length = w) (h : nextElement (trans r) a w < w) :
    colorAt r (nextElement (trans r) a w) = flipColor (colorFrom r a) := by
  obtain ⟨hmem, hlt, -⟩ | ⟨heq, -⟩ := nextElement_spec (trans_pairwise_lt r) a w
  · have hbefore := fun x => colorAt_before_next (x := x) hw (a := a)
    generalize nextElement (trans r) a w = y at hmem hlt h hbefore
    obtain ⟨hy, hchange⟩ := (mem_trans r y).mp hmem
    refine eq_flipColor_of_ne fun heq => hchange ?_
    rw [getElem?_eq_colorAt hy, heq]
    cases y with
    | zero => rw [if_pos rfl, colorFrom_of_neg (by omega)]
    | succ z =>
      rw [if_neg (Nat.succ_ne_zero z), Nat.add_sub_cancel, getElem?_eq_colorAt (by omega),
        hbefore z (by omega) (Nat.lt_succ_self z)]
  · omega

/-! ## The row being encoded -/

variable {s : State}

theorem State.colorAt_sourceRow {x : Nat} (h : x < s.cfg.width) :
    colorAt s.sourceRow x = s.cfg.input.cells.pixel s.cfg.stride s.row x := by
  simp [colorAt, State.sourceRow, List.getD, h]

/-- `color` is the colour of the row being encoded at `a0`. -/
def State.ColorHere (s : State) : Prop := s.color = colorFrom s.sourceRow s.a0

/-- Up to `a1` the row has the current colour (45_fax_encoder.md R273). -/
theorem State.colorAt_before_a1 (h : s.ColorHere) {x : Nat} (ha : s.a0p ≤ x) (hx : x < s.encoderA1 s.sourceRow) :
    colorAt s.sourceRow x = s.color := by
  rw [h]
  exact colorAt_before_next s.length_sourceRow (by rw [State.a0p] at ha; omega) hx

/-- From `a1` on it has the other colour. -/
theorem State.colorAt_a1 (h : s.ColorHere) (hw : s.encoderA1 s.sourceRow < s.cfg.width) :
    colorAt s.sourceRow (s.encoderA1 s.sourceRow) = flipColor s.color := by
  rw [h]
  exact colorAt_next s.length_sourceRow hw

/-- Between `a1` and `a2` the row has the other colour (45_fax_encoder.md R278). -/
theorem State.colorAt_before_a2 (h : s.ColorHere) {x : Nat} (ha : s.encoderA1 s.sourceRow ≤ x)
    (hx : x < s.encoderA2 s.sourceRow) : colorAt s.sourceRow x = flipColor s.color := by
  have hw := s.encoderA2_le_width
  rw [← State.colorAt_a1 h (by omega), ← colorFrom_natCast]
  exact colorAt_before_next s.length_sourceRow (by omega) hx

/-- From `a2` on it has the current colour again. -/
theorem State.colorAt_a2 (h : s.ColorHere) (hw : s.encoderA2 s.sourceRow < s.cfg.width) :
    colorAt s.sourceRow (s.encoderA2 s.sourceRow) = s.color := by
  have hle := s.encoderA1_le_encoderA2
  have hnext := colorAt_next (a := s.encoderA1 s.sourceRow) s.length_sourceRow hw
  rw [colorFrom_natCast, State.colorAt_a1 h (by omega), flipColor_flipColor] at hnext
  exact hnext

/-! ## The bits of a packed stream -/

/-- The input of the job in `d` begins with the bits `bits`. -/
def State.ReadsBits (d : State) (bits : List Bool) : Prop :=
  ∀ j (h : j < bits.length), d.inBit j = bits[j]

theorem State.ReadsBits.of_append {d : State} {bits more : List Bool} (h : d.ReadsBits (bits ++ more)) :
    d.ReadsBits bits := fun j hj => by
  rw [h j (by rw [List.length_append]; omega), List.getElem_append_left]

/-- A word emitted next is the word a decoder looks at (30_encoding.md R93). -/
theorem State.ReadsBits.word {d : State} {bits w : List Bool} (h : d.ReadsBits (bits ++ w)) (hcur : d.cur = bits.length)
    (hw : w.length ≤ 13) : w.isPrefixOf (padded (d.peek 13)) = true := by
  have hbits : w = d.bitsFrom d.cur w.length := by
    refine List.ext_getElem (by simp) fun j hj _ => ?_
    have hget := h (bits.length + j) (by rw [List.length_append]; omega)
    rw [List.getElem_append_right (by omega)] at hget
    simp only [Nat.add_sub_cancel_left] at hget
    simp [State.bitsFrom, hcur, hget]
  rw [isPrefixOf_padded (by rw [State.length_peek]; exact hw), hbits, State.peek]
  exact d.bitsFrom_isPrefixOf d.cur hw

theorem Memory.read_ofBytes (l : List Byte) (a : Nat) : (Buffer.ofBytes l).cells.read a = l.getD a 0 := by
  have hread := Memory.read_store (m := []) rfl 0 l a
  rwa [if_neg (Nat.not_lt_zero a), Nat.sub_zero] at hread

/-- A decoder with fill order 1 reads the packed bits (40_bit_cursor.md R122, 45_fax_encoder.md R285). -/
theorem State.readsBits_of_pack {d : State} {bits : List Bool} (hfill : d.fill = 1)
    (hin : d.cfg.input = Buffer.ofBytes (pack bits)) : d.ReadsBits bits := fun j hj => by
  obtain ⟨hlen, hbyte⟩ := packed_pack bits
  have hbytes : j / 8 < (pack bits).length := by omega
  have hsize : d.cfg.input.size = (pack bits).length := by rw [hin]; rfl
  rw [State.inBit_unflipped (by omega) (by omega), hin, Memory.read_ofBytes, List.getD_eq_getElem _ _ hbytes,
    hbyte _ hbytes _ (Nat.mod_lt _ (by decide)), Nat.div_add_mod, List.getD_eq_getElem _ _ hj]

end Sys2Proof.Machine
end

section
/-!
PROOF, second part of O60: a Group 4 decoder follows the encoder step by step (45_fax_encoder.md R287). Both stand at
the same `a0` of the same row with the same colour and reference line; the decoder has read what the encoder has
emitted, and what it has decoded is the image so far.
-/
namespace Sys2Proof.Machine

variable {e d e' d' : State}

/-! ## The decoder follows the encoder -/

/-- In `b` the rows before `st.row` of the encoder's image stand, and of that row the pixels before `x`. -/
def State.DecodedTo (e : State) (b : Buffer) (x : Nat) : Prop :=
  ∀ k y, y < e.cfg.width → (k < e.row ∨ (k = e.row ∧ y < x)) →
    b.cells.pixel e.cfg.stride k y = e.cfg.input.cells.pixel e.cfg.stride k y

/-- Inside a row the decoder in `d` follows the encoder in `e`. -/
structure Follows (e d : State) : Prop where
  inv_encoder : e.Inv
  inv_decoder : d.Inv
  op_eq : d.cfg.op = .decodeG4
  width_eq : d.cfg.width = e.cfg.width
  height_eq : d.cfg.height = e.cfg.height
  stride_eq : d.cfg.stride = e.cfg.stride
  row_eq : d.row = e.row
  a0_eq : d.a0 = e.a0
  color_eq : d.color = e.color
  ref_eq : d.ref = e.ref
  cur_eq : d.cur = e.encBits.length
  decoded : e.DecodedTo d.out d.reached
  padding : d.paddingClear
  color_here : e.ColorHere

/-- The decoder's job is over in `d` and has returned the image of the encoder in `e`. -/
def DecodedBack (e d : State) : Prop :=
  d.phase = .idle ∧ ∃ r b, d.result = some r ∧ r.status = .ok ∧ r.out = some b ∧ r.failures = 0 ∧
    b.size = e.cfg.stride * e.cfg.height ∧
    (∀ k x, k < e.cfg.height → x < e.cfg.width →
      b.cells.pixel e.cfg.stride k x = e.cfg.input.cells.pixel e.cfg.stride k x) ∧
    PaddingWhite e.cfg b

/-- The decoder in `d` stands where the encoder in `e` stands, or has ended where the encoder's rows have. -/
inductive Mirrors (e d : State) : Prop
  | mode (f : Follows e d) (hpe : e.phase = .encodeMode) (hpd : d.phase = .modeWord)
  | run1 {left total : Nat} (f : Follows e d)
    (hpe : e.phase = .encodeRun1 left (e.encoderA1 e.sourceRow) (e.encoderA2 e.sourceRow))
    (hpd : d.phase = .run .horizontal1 e.a0p total) (hleft : e.a0p + total + left = e.encoderA1 e.sourceRow)
  | run2 {left total : Nat} (f : Follows e d) (hpe : e.phase = .encodeRun2 left (e.encoderA2 e.sourceRow))
    (hpd : d.phase = .run .horizontal2 (e.encoderA1 e.sourceRow) total)
    (hleft : e.encoderA1 e.sourceRow + total + left = e.encoderA2 e.sourceRow)
  | ended (hpe : e.phase = .encodeEnd) (h : DecodedBack e d)

theorem State.b1_congr {s u : State} (hwidth : u.cfg.width = s.cfg.width) (ha0 : u.a0 = s.a0)
    (hcolor : u.color = s.color) (href : u.ref = s.ref) : u.b1 = s.b1 := by
  simp only [State.b1, hwidth, ha0, hcolor, href]

namespace Follows

theorem a0p_eq (f : Follows e d) : d.a0p = e.a0p := congrArg Int.toNat f.a0_eq

theorem b1_eq (f : Follows e d) : d.b1 = e.b1 := State.b1_congr f.width_eq f.a0_eq f.color_eq f.ref_eq

theorem b2_eq (f : Follows e d) : d.b2 = e.b2 := by
  simp only [State.b2, f.b1_eq, f.ref_eq, f.width_eq]

/-- Pixels painted in the colour of the image are decoded. -/
theorem decodedTo_of_painted (f : Follows e d) {x1 : Nat} {c : Color} {b : Buffer}
    (hb : d.out.Painted d.cfg.stride d.row d.reached x1 c b)
    (hcolor : ∀ x, d.reached ≤ x → x < x1 → x < e.cfg.width → colorAt e.sourceRow x = c) : e.DecodedTo b x1 := by
  obtain ⟨-, -, hin, hout, -⟩ := hb
  rw [f.stride_eq, f.row_eq] at hin hout
  have hfax : isFaxDecode d.cfg.op = true := by rw [f.op_eq]; rfl
  have hstride := JobConfig.stride_of_isFaxDecode hfax
  rw [f.stride_eq, f.width_eq] at hstride
  intro k y hy hk
  by_cases hpaint : k = e.row ∧ d.reached ≤ y ∧ y < x1
  · obtain ⟨rfl, hge, hlt⟩ := hpaint
    rw [hin y hge hlt, ← hcolor y hge hlt hy, State.colorAt_sourceRow hy]
  · rw [hout k y (by omega) (by omega)]
    exact f.decoded k y hy (by omega)

/-- A decoded row is the row encoded. -/
theorem decodedRow_eq (f : Follows e d) {b : Buffer} (h : e.DecodedTo b e.cfg.width) :
    (List.range d.cfg.width).map (b.cells.pixel d.cfg.stride d.row) = e.sourceRow := by
  rw [f.width_eq, f.stride_eq, f.row_eq]
  refine List.map_congr_left fun x hx => h e.row x (List.mem_range.mp hx) (.inr ⟨rfl, List.mem_range.mp hx⟩)

/-- Where no pixel is written, a word that both have passed leaves the decoder following. -/
theorem of_word (f : Follows e d) {w : List Bool} {pe pd : Phase} {b : Buffer}
    (he : ({ e with encBits := e.encBits ++ w, phase := pe } : State).Inv)
    (hd : ({ d with cur := d.cur + w.length, out := b, phase := pd } : State).Inv)
    (hpad : PaddingWhite d.cfg b)
    (hdec : e.DecodedTo b ({ d with cur := d.cur + w.length, out := b, phase := pd } : State).reached) :
    Follows { e with encBits := e.encBits ++ w, phase := pe }
      { d with cur := d.cur + w.length, out := b, phase := pd } where
  inv_encoder := he
  inv_decoder := hd
  op_eq := f.op_eq
  width_eq := f.width_eq
  height_eq := f.height_eq
  stride_eq := f.stride_eq
  row_eq := f.row_eq
  a0_eq := f.a0_eq
  color_eq := f.color_eq
  ref_eq := f.ref_eq
  cur_eq := by simp only [f.cur_eq, List.length_append]
  decoded := hdec
  padding := hpad
  color_here := f.color_here

/-- A mode that both have done at the same pixel: both go on in the row, begin the next one, or come to the end. -/
theorem mirrors_of_modeDone (f : Follows e d) {w : List Bool} {x : Nat} {c c' : Color} {b : Buffer} (hc : c' = c)
    (he : EncoderModeDone { e with encBits := e.encBits ++ w, a0 := (x : Int), color := c } e')
    (hd : ModeDone { d with cur := d.cur + w.length, out := b, a0 := (x : Int), color := c' } d')
    (hinv : e'.Inv) (hstep : FaxStep d d') (hsize : b.size = d.out.size) (hx : x ≤ e.cfg.width) (hdec : e.DecodedTo b x)
    (hcolor : x < e.cfg.width → c = colorFrom e.sourceRow x) (hpd : d.phase.inFaxRow = true) : Mirrors e' d' := by
  subst hc
  have hcur : d.cur + w.length = (e.encBits ++ w).length := by rw [f.cur_eq, List.length_append]
  have hkept := hstep.padding_kept f.padding
  have hdrow := State.inv_inFaxRow f.inv_decoder hpd
  rcases hd with ⟨hne, rfl⟩ | ⟨heq, hends⟩
  · simp only [f.width_eq, ne_eq] at hne
    rcases he with ⟨-, rfl⟩ | ⟨hw, -⟩ | ⟨hw, -⟩
    · exact .mode {
        inv_encoder := hinv
        inv_decoder := hstep.inv
        op_eq := f.op_eq
        width_eq := f.width_eq
        height_eq := f.height_eq
        stride_eq := f.stride_eq
        row_eq := f.row_eq
        a0_eq := rfl
        color_eq := rfl
        ref_eq := f.ref_eq
        cur_eq := hcur
        decoded := hdec
        padding := hkept nofun
        color_here := hcolor (by omega) } rfl rfl
    · exact absurd hw (by simp only; omega)
    · exact absurd hw (by simp only; omega)
  · simp only [f.width_eq] at heq
    obtain rfl : x = e.cfg.width := by omega
    have hrow := f.decodedRow_eq hdec
    rcases hends with ⟨hnext, -, rfl⟩ | ⟨-, hop, -⟩ | ⟨hlast, hidle, hresult, -, -⟩
    · simp only [f.row_eq, f.height_eq] at hnext
      rcases he with ⟨hw, -⟩ | ⟨-, -, rfl⟩ | ⟨-, hlast, -⟩
      · exact absurd hw (Int.lt_irrefl _)
      · exact .mode {
          inv_encoder := hinv
          inv_decoder := hstep.inv
          op_eq := f.op_eq
          width_eq := f.width_eq
          height_eq := f.height_eq
          stride_eq := f.stride_eq
          row_eq := congrArg (· + 1) f.row_eq
          a0_eq := rfl
          color_eq := rfl
          ref_eq := hrow
          cur_eq := hcur
          decoded := fun k y hy hk => hdec k y hy (by
            rcases hk with hk | ⟨-, hy'⟩
            · rcases Nat.lt_or_eq_of_le (Nat.le_of_lt_succ hk) with hlt | heq
              · exact .inl hlt
              · exact .inr ⟨heq, hy⟩
            · exact absurd hy' (Nat.not_lt_zero y))
          padding := hkept nofun
          color_here := (colorFrom_of_neg (by simp)).symm } rfl rfl
      · exact absurd hlast (by simp only; omega)
    · exact absurd f.op_eq hop
    · simp only [f.row_eq, f.height_eq] at hlast
      rcases he with ⟨hw, -⟩ | ⟨-, hnext, -⟩ | ⟨-, -, rfl⟩
      · exact absurd hw (Int.lt_irrefl _)
      · exact absurd hnext (by simp only; omega)
      · refine .ended rfl ⟨hidle, _, b, hresult, rfl, rfl, hdrow.failures_g4 f.op_eq, ?_, fun k y hk hy => ?_, ?_⟩
        · rw [hsize, hdrow.out_size, f.stride_eq, f.height_eq]
        · have hk' : k < e.cfg.height := hk
          have hy' : y < e.cfg.width := hy
          exact hdec k y hy (by omega)
        · have hret := hstep.padding_returned f.padding hidle _ b hresult rfl
          rw [PaddingWhite, f.stride_eq, f.height_eq, f.width_eq] at hret
          exact hret

end Follows

end Sys2Proof.Machine
end

section
/-!
PROOF, third part of O60: each step of the encoder is followed by one step of the decoder, which reads the word emitted
and paints the pixels it stands for.
-/
namespace Sys2Proof.Machine

variable {e d e' : State}

/-! ## The word read is the word emitted -/

theorem State.step_of_modeWord_read {bits : List Bool} {i : Instr} (hpd : d.phase = .modeWord) (hi : i ∈ modeWords)
    (hcur : d.cur = bits.length) (hbits : d.ReadsBits (bits ++ encode 0 i)) : step d = exec i d := by
  have hword := hbits.word hcur (one_mem_modeWords i hi).2
  refine step_word ?_
  rw [State.fetch_modeWord hpd, decodeMode_of_modeWord _ (thirteen_le_length_padded _) hi hword]

theorem State.step_of_runWord_read {bits : List Bool} {site : RunSite} {x total left : Nat} {c : Color}
    (hpd : d.phase = .run site x total) (hc : d.runColor site = c) (hcur : d.cur = bits.length)
    (hbits : d.ReadsBits (bits ++ encode 0 (encoderRunWord c left))) : step d = exec (encoderRunWord c left) d := by
  have hmem := encoderRunWord_mem c left
  have hword := hbits.word hcur (runWords_length c _ hmem).2
  refine step_word ?_
  rw [State.fetch_run hpd, hc, decodeRun_of_runWord (thirteen_le_length_padded _) hmem hword]
  rfl

theorem mem_modeWords_of_vertical {i : Instr} {δ : Int} (h : (i, δ) ∈ verticalModes) : i ∈ modeWords := by
  simp only [verticalModes, List.mem_cons, Prod.mk.injEq, List.not_mem_nil, or_false] at h
  rcases h with ⟨rfl, -⟩ | ⟨rfl, -⟩ | ⟨rfl, -⟩ | ⟨rfl, -⟩ | ⟨rfl, -⟩ | ⟨rfl, -⟩ | ⟨rfl, -⟩ <;> decide

namespace Follows

/-! ## Modes -/

theorem reached_modeWord (f : Follows e d) (hpd : d.phase = .modeWord) : d.reached = e.a0p := by
  rw [State.reached, hpd]
  exact f.a0p_eq

section
variable (f : Follows e d) (hpe : e.phase = .encodeMode) (hpd : d.phase = .modeWord)
include f hpe hpd

theorem pass (hb2 : e.b2 < e.encoderA1 e.sourceRow) (hbits : d.ReadsBits (e.encBits ++ encode 0 .p)) :
    ∃ d', step d = .next d' ∧ Mirrors { e with encBits := e.encBits ++ encode 0 .p, a0 := (e.b2 : Int) } d' := by
  have hp : d.phase.inFaxRow = true := by rw [hpd]; rfl
  have hrow : e.phase.inEncodeRow = true := by rw [hpe]; rfl
  obtain ⟨-, -, ha0⟩ := State.inv_inEncodeRow f.inv_encoder hrow
  have hlt := State.a0_lt_b1 ha0
  have hle := State.b1_le_b2 (State.imageRange_of_inv f.inv_encoder).ref_length
  have hle' := e.encoderA1_le_width
  obtain ⟨b, t, hb, hexec, hdone⟩ := passMode d f.inv_decoder hpd
  have hstep := (State.step_of_modeWord_read hpd (by decide) f.cur_eq hbits).trans hexec
  have hsize := hb.1
  rw [← State.a0p, f.a0p_eq, ← f.reached_modeWord hpd, f.b2_eq] at hb
  rw [f.b2_eq] at hdone
  have hinside : EncoderModeDone { e with encBits := e.encBits ++ encode 0 .p, a0 := (e.b2 : Int), color := e.color }
      { e with encBits := e.encBits ++ encode 0 .p, a0 := (e.b2 : Int) } :=
    .inl ⟨by simp only; omega, by simp only [hpe]⟩
  have hcolor {x : Nat} (hx : e.a0p ≤ x) (hx' : x < e.encoderA1 e.sourceRow) :=
    State.colorAt_before_a1 f.color_here hx hx'
  refine ⟨t, hstep, f.mirrors_of_modeDone f.color_eq hinside hdone ((EncodeStep.pass hpe hb2).inv f.inv_encoder hrow)
    (FaxStep.of_step f.inv_decoder hp hstep) hsize (by omega) (f.decodedTo_of_painted hb ?_) (fun _ => ?_) hp⟩
  · intro x hx hx' _
    rw [f.reached_modeWord hpd] at hx
    rw [f.color_eq]
    exact hcolor hx (by omega)
  · rw [colorFrom_natCast]
    exact (hcolor (by rw [State.a0p]; omega) hb2).symm

theorem vertical {i : Instr} {δ : Int} (hb2 : ¬e.b2 < e.encoderA1 e.sourceRow) (hmem : (i, δ) ∈ verticalModes)
    (hδ : (e.encoderA1 e.sourceRow : Int) - (e.b1 : Int) = δ)
    (hdone : EncoderModeDone
      { e with
        encBits := e.encBits ++ encode 0 i
        a0 := (e.encoderA1 e.sourceRow : Int)
        color := flipColor e.color } e')
    (hbits : d.ReadsBits (e.encBits ++ encode 0 i)) : ∃ d', step d = .next d' ∧ Mirrors e' d' := by
  have hp : d.phase.inFaxRow = true := by rw [hpd]; rfl
  have hrow : e.phase.inEncodeRow = true := by rw [hpe]; rfl
  obtain ⟨-, -, ha0⟩ := State.inv_inEncodeRow f.inv_encoder hrow
  have hlt := State.a0_lt_encoderA1 (r := e.sourceRow) ha0
  have hle := e.encoderA1_le_width
  have ha1 : (d.b1 : Int) + δ = (e.encoderA1 e.sourceRow : Int) := by
    rw [f.b1_eq]
    omega
  obtain ⟨b, t, hb, hexec, hmode⟩ := (verticalModes_paint_or_raise d i δ f.inv_decoder hpd hmem).1
    (by rw [ha1, f.a0_eq, f.width_eq]; omega)
  have hstep := (State.step_of_modeWord_read hpd (mem_modeWords_of_vertical hmem) f.cur_eq hbits).trans hexec
  have hsize := hb.1
  rw [← State.a0p, f.a0p_eq, ← f.reached_modeWord hpd, ha1, Int.toNat_natCast] at hb
  rw [ha1] at hmode
  refine ⟨t, hstep, f.mirrors_of_modeDone (congrArg flipColor f.color_eq) hdone hmode
    ((EncodeStep.vertical hpe hb2 hmem hδ hdone).inv f.inv_encoder hrow) (FaxStep.of_step f.inv_decoder hp hstep) hsize
    hle (f.decodedTo_of_painted hb ?_) (fun hw => ?_) hp⟩
  · intro x hx hx' _
    rw [f.reached_modeWord hpd] at hx
    rw [f.color_eq]
    exact State.colorAt_before_a1 f.color_here hx hx'
  · rw [colorFrom_natCast, State.colorAt_a1 f.color_here hw]

theorem horizontal (hb2 : ¬e.b2 < e.encoderA1 e.sourceRow) (hbits : d.ReadsBits (e.encBits ++ encode 0 .h)) :
    ∃ d', step d = .next d' ∧ Mirrors
      { e with
        encBits := e.encBits ++ encode 0 .h
        phase := .encodeRun1 (e.encoderA1 e.sourceRow - e.a0p) (e.encoderA1 e.sourceRow) (e.encoderA2 e.sourceRow) }
      d' := by
  have hp : d.phase.inFaxRow = true := by rw [hpd]; rfl
  have hrow : e.phase.inEncodeRow = true := by rw [hpe]; rfl
  obtain ⟨-, -, ha0⟩ := State.inv_inEncodeRow f.inv_encoder hrow
  have hlt := State.a0_lt_encoderA1 (r := e.sourceRow) ha0
  have hexec := horizontalModeBegins d hpd
  rw [← State.a0p, f.a0p_eq] at hexec
  have hstep := (State.step_of_modeWord_read hpd (by decide) f.cur_eq hbits).trans hexec
  have hfollows := f.of_word (w := encode 0 .h) (b := d.out) ((EncodeStep.horizontal hpe hb2).inv f.inv_encoder hrow)
    (FaxStep.of_step f.inv_decoder hp hstep).inv f.padding (f.reached_modeWord hpd ▸ f.decoded)
  exact ⟨_, hstep, .run1 (total := 0) hfollows rfl rfl (by
    change e.a0p + 0 + (e.encoderA1 e.sourceRow - e.a0p) = e.encoderA1 e.sourceRow
    rw [State.a0p]
    omega)⟩

end

/-! ## The first run of a horizontal mode -/

/-- The pixels of a word of the first run have the current colour. -/
theorem decodedTo_run1 (f : Follows e d) {x1 total : Nat} (hpd : d.phase = .run .horizontal1 e.a0p total)
    {b : Buffer}
    (hb : d.out.Painted d.cfg.stride d.row (e.a0p + total) x1 (d.runColor .horizontal1) b)
    (hx : x1 ≤ e.encoderA1 e.sourceRow) : e.DecodedTo b x1 := by
  have hreached : d.reached = e.a0p + total := by rw [State.reached, hpd]
  rw [← hreached] at hb
  refine f.decodedTo_of_painted hb fun x hge hlt _ => ?_
  rw [show d.runColor .horizontal1 = e.color from f.color_eq]
  exact State.colorAt_before_a1 f.color_here (by omega) (by omega)

section
variable {left total : Nat} {re : RunEntry} (f : Follows e d)
  (hpe : e.phase = .encodeRun1 left (e.encoderA1 e.sourceRow) (e.encoderA2 e.sourceRow))
  (hpd : d.phase = .run .horizontal1 e.a0p total) (hleft : e.a0p + total + left = e.encoderA1 e.sourceRow)
  (he : (encoderRunWord e.color left).runEntry = some re)
  (hbits : d.ReadsBits (e.encBits ++ encode 0 (encoderRunWord e.color left)))
include f hpe hpd hleft he hbits

theorem makeup1 (hterm : re.terminating = false) : ∃ d', step d = .next d' ∧ Mirrors
    { e with
      encBits := e.encBits ++ encode 0 (encoderRunWord e.color left)
      phase := .encodeRun1 (left - re.run) (e.encoderA1 e.sourceRow) (e.encoderA2 e.sourceRow) } d' := by
  have hp : d.phase.inFaxRow = true := by rw [hpd]; rfl
  have hrow : e.phase.inEncodeRow = true := by rw [hpe]; rfl
  have hcolor : d.runColor .horizontal1 = e.color := f.color_eq
  obtain ⟨hspace, hle, -, -⟩ := encoderRunWord_entry he
  have hw := e.encoderA1_le_width
  obtain ⟨b, hb, hexec⟩ := makeupWordsContinueTheRun d _ re .horizontal1 e.a0p total f.inv_decoder hpd he hterm
    (hcolor.symm ▸ hspace) (by rw [f.width_eq]; omega)
  have hstep := (State.step_of_runWord_read hpd hcolor f.cur_eq hbits).trans hexec
  have hfax := FaxStep.of_step f.inv_decoder hp hstep
  have hdec := f.decodedTo_run1 hpd hb (by omega)
  rw [Nat.add_assoc] at hdec
  exact ⟨_, hstep, .run1 (f.of_word ((EncodeStep.makeup1 hpe he hterm).inv f.inv_encoder hrow) hfax.inv
    (hfax.padding_kept f.padding nofun) hdec) rfl rfl (by
      change e.a0p + (total + re.run) + (left - re.run) = e.encoderA1 e.sourceRow
      omega)⟩

theorem terminating1 (hterm : re.terminating = true) : ∃ d', step d = .next d' ∧ Mirrors
    { e with
      encBits := e.encBits ++ encode 0 (encoderRunWord e.color left)
      phase := .encodeRun2 (e.encoderA2 e.sourceRow - e.encoderA1 e.sourceRow) (e.encoderA2 e.sourceRow) } d' := by
  have hp : d.phase.inFaxRow = true := by rw [hpd]; rfl
  have hrow : e.phase.inEncodeRow = true := by rw [hpe]; rfl
  have hcolor : d.runColor .horizontal1 = e.color := f.color_eq
  obtain ⟨hspace, -, -, hrun⟩ := encoderRunWord_entry he
  have hrun' := hrun hterm
  have hw := e.encoderA1_le_width
  have h12 := e.encoderA1_le_encoderA2
  obtain ⟨b, t, hb, hexec, hdone⟩ := terminatingWordsEndTheRun d _ re .horizontal1 e.a0p total f.inv_decoder hpd he
    hterm (hcolor.symm ▸ hspace) (by rw [f.width_eq]; omega)
  have hend : e.a0p + (total + re.run) = e.encoderA1 e.sourceRow := by omega
  have hdec := f.decodedTo_run1 hpd hb (by omega)
  rw [Nat.add_assoc, hend] at hdec
  rw [RunDone, hend] at hdone
  subst hdone
  have hstep := (State.step_of_runWord_read hpd hcolor f.cur_eq hbits).trans hexec
  have hfax := FaxStep.of_step f.inv_decoder hp hstep
  exact ⟨_, hstep, .run2 (total := 0) (f.of_word ((EncodeStep.terminating1 hpe he hterm).inv f.inv_encoder hrow)
    hfax.inv (hfax.padding_kept f.padding nofun) hdec) rfl rfl (by
      change e.encoderA1 e.sourceRow + 0 + (e.encoderA2 e.sourceRow - e.encoderA1 e.sourceRow) = e.encoderA2 e.sourceRow
      omega)⟩

end

/-! ## The second run of a horizontal mode -/

/-- The pixels of a word of the second run have the other colour. -/
theorem decodedTo_run2 (f : Follows e d) {x1 total : Nat}
    (hpd : d.phase = .run .horizontal2 (e.encoderA1 e.sourceRow) total)
    {b : Buffer}
    (hb : d.out.Painted d.cfg.stride d.row (e.encoderA1 e.sourceRow + total) x1 (d.runColor .horizontal2) b)
    (hx : x1 ≤ e.encoderA2 e.sourceRow) : e.DecodedTo b x1 := by
  have hreached : d.reached = e.encoderA1 e.sourceRow + total := by rw [State.reached, hpd]
  rw [← hreached] at hb
  refine f.decodedTo_of_painted hb fun x hge hlt _ => ?_
  rw [show d.runColor .horizontal2 = flipColor e.color from congrArg flipColor f.color_eq]
  exact State.colorAt_before_a2 f.color_here (by omega) (by omega)

section
variable {left total : Nat} {re : RunEntry} (f : Follows e d)
  (hpe : e.phase = .encodeRun2 left (e.encoderA2 e.sourceRow))
  (hpd : d.phase = .run .horizontal2 (e.encoderA1 e.sourceRow) total)
  (hleft : e.encoderA1 e.sourceRow + total + left = e.encoderA2 e.sourceRow)
  (he : (encoderRunWord (flipColor e.color) left).runEntry = some re)
  (hbits : d.ReadsBits (e.encBits ++ encode 0 (encoderRunWord (flipColor e.color) left)))
include f hpe hpd hleft he hbits

theorem makeup2 (hterm : re.terminating = false) : ∃ d', step d = .next d' ∧ Mirrors
    { e with
      encBits := e.encBits ++ encode 0 (encoderRunWord (flipColor e.color) left)
      phase := .encodeRun2 (left - re.run) (e.encoderA2 e.sourceRow) } d' := by
  have hp : d.phase.inFaxRow = true := by rw [hpd]; rfl
  have hrow : e.phase.inEncodeRow = true := by rw [hpe]; rfl
  have hcolor : d.runColor .horizontal2 = flipColor e.color := congrArg flipColor f.color_eq
  obtain ⟨hspace, hle, -, -⟩ := encoderRunWord_entry he
  have hw := e.encoderA2_le_width
  obtain ⟨b, hb, hexec⟩ := makeupWordsContinueTheRun d _ re .horizontal2 _ total f.inv_decoder hpd he hterm
    (hcolor.symm ▸ hspace) (by rw [f.width_eq]; omega)
  have hstep := (State.step_of_runWord_read hpd hcolor f.cur_eq hbits).trans hexec
  have hfax := FaxStep.of_step f.inv_decoder hp hstep
  have hdec := f.decodedTo_run2 hpd hb (by omega)
  rw [Nat.add_assoc] at hdec
  exact ⟨_, hstep, .run2 (f.of_word ((EncodeStep.makeup2 hpe he hterm).inv f.inv_encoder hrow) hfax.inv
    (hfax.padding_kept f.padding nofun) hdec) rfl rfl (by
      change e.encoderA1 e.sourceRow + (total + re.run) + (left - re.run) = e.encoderA2 e.sourceRow
      omega)⟩

theorem terminating2 (hterm : re.terminating = true)
    (hdone : EncoderModeDone
      { e with
        encBits := e.encBits ++ encode 0 (encoderRunWord (flipColor e.color) left)
        a0 := (e.encoderA2 e.sourceRow : Int) } e') : ∃ d', step d = .next d' ∧ Mirrors e' d' := by
  have hp : d.phase.inFaxRow = true := by rw [hpd]; rfl
  have hrow : e.phase.inEncodeRow = true := by rw [hpe]; rfl
  have hcolor : d.runColor .horizontal2 = flipColor e.color := congrArg flipColor f.color_eq
  obtain ⟨hspace, -, -, hrun⟩ := encoderRunWord_entry he
  have hrun' := hrun hterm
  have hw := e.encoderA2_le_width
  obtain ⟨b, t, hb, hexec, hmode⟩ := terminatingWordsEndTheRun d _ re .horizontal2 _ total f.inv_decoder hpd he hterm
    (hcolor.symm ▸ hspace) (by rw [f.width_eq]; omega)
  have hend : e.encoderA1 e.sourceRow + (total + re.run) = e.encoderA2 e.sourceRow := by omega
  have hdec := f.decodedTo_run2 hpd hb (by omega)
  rw [Nat.add_assoc, hend] at hdec
  rw [RunDone, hend] at hmode
  have hstep := (State.step_of_runWord_read hpd hcolor f.cur_eq hbits).trans hexec
  refine ⟨t, hstep, f.mirrors_of_modeDone (c := e.color) f.color_eq hdone hmode
    ((EncodeStep.terminating2 hpe he hterm hdone).inv f.inv_encoder hrow) (FaxStep.of_step f.inv_decoder hp hstep) hb.1
    hw hdec (fun hlt => ?_) hp⟩
  rw [colorFrom_natCast, State.colorAt_a2 f.color_here hlt]

end

end Follows

/-! ## Every step of the encoder -/

theorem EncoderModeDone.encBits_eq {u t : State} (h : EncoderModeDone u t) : t.encBits = u.encBits := by
  rcases h with ⟨-, rfl⟩ | ⟨-, -, rfl⟩ | ⟨-, -, rfl⟩ <;> rfl

/-- The decoder follows a step of the encoder where its input goes on with the word emitted. -/
theorem Mirrors.exists_step (h : Mirrors e d) (hstep : EncodeStep e e') (hbits : d.ReadsBits e'.encBits) :
    ∃ d', step d = .next d' ∧ Mirrors e' d' := by
  cases hstep with
  | pass hp hb2 =>
    cases h with
    | mode f hpe hpd => exact f.pass hpe hpd hb2 hbits
    | run1 f hpe | run2 f hpe | ended hpe => cases hp.symm.trans hpe
  | vertical hp hb2 hmem hδ hdone =>
    cases h with
    | mode f hpe hpd =>
      rw [hdone.encBits_eq] at hbits
      exact f.vertical hpe hpd hb2 hmem hδ hdone hbits
    | run1 f hpe | run2 f hpe | ended hpe => cases hp.symm.trans hpe
  | horizontal hp hb2 =>
    cases h with
    | mode f hpe hpd => exact f.horizontal hpe hpd hb2 hbits
    | run1 f hpe | run2 f hpe | ended hpe => cases hp.symm.trans hpe
  | makeup1 hp he hterm =>
    cases h with
    | run1 f hpe hpd hleft =>
      obtain ⟨rfl, rfl, rfl⟩ := Phase.encodeRun1.inj (hp.symm.trans hpe)
      exact f.makeup1 hpe hpd hleft he hbits hterm
    | mode f hpe | run2 f hpe | ended hpe => cases hp.symm.trans hpe
  | terminating1 hp he hterm =>
    cases h with
    | run1 f hpe hpd hleft =>
      obtain ⟨rfl, rfl, rfl⟩ := Phase.encodeRun1.inj (hp.symm.trans hpe)
      exact f.terminating1 hpe hpd hleft he hbits hterm
    | mode f hpe | run2 f hpe | ended hpe => cases hp.symm.trans hpe
  | makeup2 hp he hterm =>
    cases h with
    | run2 f hpe hpd hleft =>
      obtain ⟨rfl, rfl⟩ := Phase.encodeRun2.inj (hp.symm.trans hpe)
      exact f.makeup2 hpe hpd hleft he hbits hterm
    | mode f hpe | run1 f hpe | ended hpe => cases hp.symm.trans hpe
  | terminating2 hp he hterm hdone =>
    cases h with
    | run2 f hpe hpd hleft =>
      obtain ⟨rfl, rfl⟩ := Phase.encodeRun2.inj (hp.symm.trans hpe)
      rw [hdone.encBits_eq] at hbits
      exact f.terminating2 hpe hpd hleft he hbits hterm hdone
    | mode f hpe | run1 f hpe | ended hpe => cases hp.symm.trans hpe

end Sys2Proof.Machine
end

section
/-!
PROOF of O60: decoding what the encoder returns gives the image back (45_fax_encoder.md R287). The encoder runs to its
end of block, and whatever decoder reads the bits it has emitted runs along with it to the end of its job.
-/
namespace Sys2Proof.Machine

variable {s t e d : State} {c : JobConfig}

/-! ## Runs -/

theorem step_of_run_succ {n : Nat} (h : Host.Core.run Sys2Proof.core (n + 1) s = .next t) :
    ∃ u, step s = .next u ∧ Host.Core.run Sys2Proof.core n u = .next t := by
  cases hs : step s with
  | next u => exact ⟨u, rfl, (run_of_step hs n).symm.trans h⟩
  | fault r =>
    have hs' : Sys2Proof.core.step s = .fault r := hs
    simp [Host.Core.run, hs'] at h
  | refused r =>
    have hs' : Sys2Proof.core.step s = .refused r := hs
    simp [Host.Core.run, hs'] at h

theorem run_add {n : Nat} (h : Host.Core.run Sys2Proof.core n s = .next t) (m : Nat) :
    Host.Core.run Sys2Proof.core (n + m) s = Host.Core.run Sys2Proof.core m t := by
  induction n generalizing s with
  | zero =>
    obtain rfl := Host.Outcome.next.inj h
    rw [Nat.zero_add]
  | succ n ih =>
    obtain ⟨u, hu, hrun⟩ := step_of_run_succ h
    rw [Nat.succ_add, run_of_step hu]
    exact ih hrun

/-! ## The encoder runs to its end of block -/

theorem EncodeStep.encBits_append {e' : State} (h : EncodeStep e e') : ∃ w, e'.encBits = e.encBits ++ w := by
  cases h with
  | pass | horizontal | makeup1 | terminating1 | makeup2 => exact ⟨_, rfl⟩
  | vertical hp hb2 hmem hd hdone => exact ⟨_, hdone.encBits_eq⟩
  | terminating2 hp he hterm hdone => exact ⟨_, hdone.encBits_eq⟩

/-- The encoder in `e` comes in `n` steps to the end of block in `z`; a decoder that mirrors it and reads what it has
emitted by then mirrors it there too. -/
structure EncodesTo (n : Nat) (e z : State) : Prop where
  run : Host.Core.run Sys2Proof.core n e = .next z
  inv : z.Inv
  phase : z.phase = .encodeEnd
  cfg_eq : z.cfg = e.cfg
  limits_eq : z.limits = e.limits
  request_eq : z.request = e.request
  encBits_append : ∃ w, z.encBits = e.encBits ++ w
  mirrored : ∀ d : State, d.ReadsBits z.encBits → Mirrors e d →
    ∃ u, Host.Core.run Sys2Proof.core n d = .next u ∧ Mirrors z u

/-- The stream is the input of the job, so a running decoder reads the same bits after a step. -/
theorem State.ReadsBits.of_step {d' : State} {bits : List Bool} (h : d.ReadsBits bits) (hrun : d.phase ≠ .idle)
    (hstep : step d = .next d') : d'.ReadsBits bits := by
  obtain ⟨hcfg, hfill, -⟩ := runningJobIsUndisturbed d d' hrun hstep
  intro j hj
  have hbit : d'.inBit j = d.inBit j := by
    rw [State.inBit, State.inBit, State.inBits, State.inBits, hcfg, hfill]
  exact hbit.trans (h j hj)

theorem Mirrors.ne_idle (h : Mirrors e d) (hp : e.phase.inEncodeRow = true) : d.phase ≠ .idle := by
  cases h with
  | mode f hpe hpd | run1 f hpe hpd hleft | run2 f hpe hpd hleft =>
    rw [hpd]
    nofun
  | ended hpe =>
    rw [hpe] at hp
    cases hp

theorem EncodesTo.of_step {n : Nat} {e' z : State} (hp : e.phase.inEncodeRow = true)
    (h : step e = .next e') (hstep : EncodeStep e e') (hz : EncodesTo n e' z) : EncodesTo (n + 1) e z := by
  obtain ⟨hcfg, -, hlimits, hrequest, -⟩ := runningJobIsUndisturbed e e' (Phase.ne_idle_of_encodes (.inl hp)) h
  obtain ⟨w, hw⟩ := hstep.encBits_append
  obtain ⟨w', hw'⟩ := hz.encBits_append
  exact {
    run := (run_of_step h n).trans hz.run
    inv := hz.inv
    phase := hz.phase
    cfg_eq := hz.cfg_eq.trans hcfg
    limits_eq := hz.limits_eq.trans hlimits
    request_eq := hz.request_eq.trans hrequest
    encBits_append := ⟨w ++ w', by rw [hw', hw, List.append_assoc]⟩
    mirrored := fun d hbits hd => by
      obtain ⟨d', hd', hmirrors⟩ := hd.exists_step hstep (State.ReadsBits.of_append (hw' ▸ hbits))
      obtain ⟨u, hu, hend⟩ := hz.mirrored d' (hbits.of_step (hd.ne_idle hp) hd') hmirrors
      exact ⟨u, (run_of_step hd' n).trans hu, hend⟩ }

theorem exists_encodesTo (hi : e.Inv) (hp : e.phase.inEncodeRow = true ∨ e.phase = .encodeEnd) :
    ∃ n z, EncodesTo n e z := by
  induction e using encodeLess_wellFounded.induction with
  | _ e ih =>
    rcases hp with hrow | hend
    · obtain ⟨e', he', hstep⟩ := EncodeStep.exists_of_inEncodeRow hi hrow
      obtain ⟨n, z, hz⟩ := ih e' (hstep.encodeLess hi hrow) (hstep.inv hi hrow) hstep.phase
      exact ⟨n + 1, z, .of_step hrow he' hstep hz⟩
    · exact ⟨0, e, {
        run := run_zero e
        inv := hi
        phase := hend
        cfg_eq := rfl
        limits_eq := rfl
        request_eq := rfl
        encBits_append := ⟨[], (List.append_nil _).symm⟩
        mirrored := fun d _ hd => ⟨d, run_zero d, hd⟩ }⟩

/-! ## The two jobs -/

/-- The job that decodes what the encoder returned for the job `c`. -/
def JobConfig.decodeBack (c : JobConfig) (bytes : List Byte) : JobConfig :=
  { c with op := .decodeG4, fillOrder := 1, refIn := none, input := Buffer.ofBytes bytes }

theorem JobConfig.valid_decodeBack {l : Limits} {bytes : List Byte} (h : c.valid l = true)
    (hlen : bytes.length ≤ l.maxInBytes) : (c.decodeBack bytes).valid l = true := by
  obtain ⟨⟨hw, hw', hh, -⟩, -⟩ := JobConfig.valid_iff.mp h
  refine JobConfig.valid_iff.mpr ⟨⟨hw, hw', hh, hlen⟩, fun _ => .inl rfl, nofun, nofun, fun _ => nofun, ?_, ?_, nofun⟩
  · rintro (h | h) <;> cases h
  · rintro (h | h) <;> cases h

/-- A job with a canonical input may be submitted to a legal idle engine. -/
theorem State.inv_submitted (hi : s.Inv) (hp : s.phase = .idle) (hin : c.input.wf = true) :
    ({ s with request := some c } : State).Inv := by
  obtain ⟨hbuf, htable, hrange, hrest, -⟩ := State.inv_iff.mp hi
  obtain ⟨hin', hout, -, hres⟩ := State.buffersWf_iff.mp hbuf
  refine State.inv_iff.mpr ⟨State.buffersWf_iff.mpr ⟨hin', hout, fun c' hc' => ?_, hres⟩, htable, hrange, hrest, ?_⟩
  · exact Option.some_inj.mp hc' ▸ hin
  · simp only [State.phaseLegal, hp]

theorem State.beginEncode_encodes (s : State) (c : JobConfig) :
    (s.jobStart c).beginEncode.phase.inEncodeRow = true ∨ (s.jobStart c).beginEncode.phase = .encodeEnd := by
  rcases Nat.eq_zero_or_pos c.height with hh | hh
  · exact .inr (by rw [State.beginEncode_of_no_row (s := s.jobStart c) hh])
  · exact .inl (by rw [State.beginEncode_of_rows (s := s.jobStart c) hh]; rfl)

/-- Where both jobs begin, the decoder mirrors the encoder. -/
theorem mirrors_begin {s' : State} {bytes : List Byte} (hop : c.op = .encodeG4)
    (he : (s.jobStart c).beginEncode.Inv) (hd : (s'.jobStart (c.decodeBack bytes)).beginG4.Inv) :
    Mirrors (s.jobStart c).beginEncode (s'.jobStart (c.decodeBack bytes)).beginG4 := by
  have hstride : (c.decodeBack bytes).stride = c.stride := by simp [JobConfig.stride, JobConfig.decodeBack, hop]
  have hout : (s'.jobStart (c.decodeBack bytes)).out = Buffer.zeros ((c.decodeBack bytes).stride * c.height) :=
    State.jobStart_out nofun
  rcases Nat.eq_zero_or_pos c.height with hh | hh
  · rw [State.beginEncode_of_no_row (s := s.jobStart c) hh,
      State.beginG4_of_no_row (s := s'.jobStart (c.decodeBack bytes)) hh]
    refine .ended rfl ⟨rfl, _, _, rfl, rfl, rfl, rfl, ?_, fun k x hk => ?_, fun k x hk => ?_⟩
    · simp only [hout, hstride]
      rfl
    · exact absurd (hh ▸ hk) (Nat.not_lt_zero k)
    · exact absurd (hh ▸ hk) (Nat.not_lt_zero k)
  · rw [State.beginEncode_of_rows (s := s.jobStart c) hh] at he ⊢
    rw [State.beginG4_of_rows (s := s'.jobStart (c.decodeBack bytes)) hh] at hd ⊢
    exact .mode {
      inv_encoder := he
      inv_decoder := hd
      op_eq := rfl
      width_eq := rfl
      height_eq := rfl
      stride_eq := hstride
      row_eq := rfl
      a0_eq := rfl
      color_eq := rfl
      ref_eq := rfl
      cur_eq := rfl
      decoded := fun k y _ hk => by
        rcases hk with hk | ⟨-, hy⟩
        · exact absurd hk (Nat.not_lt_zero k)
        · exact absurd hy (Nat.not_lt_zero y)
      padding := fun k x _ _ _ => Memory.pixel_of_read_zero <| by
        change (s'.jobStart (c.decodeBack bytes)).out.cells.read _ = 0
        rw [hout]
        exact Buffer.read_zeros _ _
      color_here := (colorFrom_of_neg (by simp)).symm } rfl rfl

/-- The decode job run to its end beside the encoder's. -/
theorem exists_decodedBack {n : Nat} {z : State} {bits : List Bool} (hi : s.Inv) (hp : s.phase = .idle)
    (hr : s.request = some (c.decodeBack (pack bits))) (hvalid : (c.decodeBack (pack bits)).valid s.limits = true)
    (hop : c.op = .encodeG4) (hz : EncodesTo n (t.jobStart c).beginEncode z) (he : (t.jobStart c).beginEncode.Inv)
    (hbits : ∃ w, bits = z.encBits ++ w) :
    ∃ u, Host.Core.run Sys2Proof.core (n + 1) s = .next u ∧ DecodedBack z u := by
  have hstep : step s = .next (s.jobStart (c.decodeBack (pack bits))).beginG4 :=
    (step_word (State.fetch_idle_of_request hp hr)).trans (exec_instr_accepted hp hr hvalid)
  have hinv := (legalStatesStayLegal s _ hi hstep).1
  have hcfg : (s.jobStart (c.decodeBack (pack bits))).beginG4.cfg = c.decodeBack (pack bits) ∧
      (s.jobStart (c.decodeBack (pack bits))).beginG4.fill = 1 := by
    rw [State.beginG4]
    split <;> exact ⟨rfl, rfl⟩
  obtain ⟨w, hw⟩ := hbits
  have hreads : (s.jobStart (c.decodeBack (pack bits))).beginG4.ReadsBits (z.encBits ++ w) :=
    hw ▸ State.readsBits_of_pack hcfg.2 (by rw [hcfg.1]; rfl)
  obtain ⟨u, hu, hmirrors⟩ := hz.mirrored _ hreads.of_append (mirrors_begin hop he hinv)
  refine ⟨u, (run_of_step hstep n).trans hu, ?_⟩
  cases hmirrors with
  | mode f hpe hpd | run1 f hpe hpd hleft | run2 f hpe hpd hleft => cases hz.phase.symm.trans hpe
  | ended hpe h => exact h

/-- Settles O60: the encoder's run to the end of block, and the decoder's run beside it. -/
theorem encodedImageDecodesBack : Obligations.EncodedImageDecodesBack := fun s c hi hp hr hop hvalid => by
  have hstep : step s = .next (s.jobStart c).beginEncode := by
    refine (step_word (State.fetch_idle_of_request hp hr)).trans ((exec_instr_accepted hp hr hvalid).trans ?_)
    rw [hop, Op.begin]
  have hinv := (legalStatesStayLegal s _ hi hstep).1
  obtain ⟨n, z, hz⟩ := exists_encodesTo hinv (s.beginEncode_encodes c)
  have hend := step_of_encodeEnd hz.phase
  have hkeeps : (s.jobStart c).beginEncode.cfg = c ∧ (s.jobStart c).beginEncode.limits = s.limits ∧
      (s.jobStart c).beginEncode.request = none := by
    rw [State.beginEncode]
    split <;> exact ⟨rfl, rfl, rfl⟩
  obtain ⟨hcfg, hlimits, hrequest⟩ := hkeeps
  have hzcfg : z.cfg = c := hz.cfg_eq.trans hcfg
  have hzlimits : z.limits = s.limits := hz.limits_eq.trans hlimits
  have hzrequest : z.request = none := hz.request_eq.trans hrequest
  refine ⟨n + 1 + 1, (z.emit (encode 0 .eofb)).finish (encodeResult (pack (z.encBits ++ encode 0 .eofb))),
    pack (z.encBits ++ encode 0 .eofb), ?_, ⟨rfl, rfl, hzrequest, hzlimits⟩, fun hlen => ?_⟩
  · rw [run_of_step hstep, run_add hz.run, run_of_step hend, run_zero]
  · have hzinv := (legalStatesStayLegal z _ hz.inv hend).1
    have hsubmitted := State.inv_submitted (c := c.decodeBack (pack (z.encBits ++ encode 0 .eofb))) hzinv rfl
      (Buffer.ofBytes_wf _)
    obtain ⟨u, hu, hidle, r, b, hres, hok, hb, hfail, hsize, hpixel, hpad⟩ :=
      exists_decodedBack hsubmitted rfl rfl (JobConfig.valid_decodeBack (hzlimits ▸ hvalid) (hzlimits ▸ hlen)) hop hz
        hinv ⟨_, rfl⟩
    rw [hzcfg] at hsize hpixel
    rw [PaddingWhite, hzcfg] at hpad
    refine ⟨n + 1, u, b, ?_, hidle, ⟨r, hres, hok, hb, hfail⟩, hsize, hpixel, hpad⟩
    have hopen : State.portOpen ((z.emit (encode 0 .eofb)).finish
        (encodeResult (pack (z.encBits ++ encode 0 .eofb)))) = true := by
      rw [State.portOpen, State.finish_request, State.emit_request, hzrequest]
      rfl
    rw [State.submit_of_open hopen]
    exact hu

end Sys2Proof.Machine
end
